-- ==== Sys2Proof/Word.lean ====
section
/-! DEFINITION. The machine's two word types (`00_scope.md` rule R7: DATA_BITS = 8, ADDR_BITS = 16). -/

namespace Sys2Proof

/-- A byte: a general register, a memory byte, a port byte (`10_state.md` R20, R34). -/
abbrev Byte := BitVec 8

/-- A 16-bit value: PC, SP, a register pair, a memory address (`10_state.md` R21, R24, R25). -/
abbrev Word := BitVec 16

end Sys2Proof
end

