-- ==== Sys2Proof/Syntax.lean ====
section
/-! DEFINITION. The instructions: one constructor per row of `spec/opcode_table.json` (256 first bytes),
the names of the operand codes (`10_state.md` R22, R23, `30_encoding.md` R94, R99), and the families as
functions of their operand codes, so that a rule that speaks of `MOV r1,r2` can be written once. -/

namespace Sys2Proof

/-- The seven general registers (`10_state.md` R20). The code 0b110 is the memory operand M, no register. -/
inductive Reg where
  | b | c | d | e | h | l | a
  deriving DecidableEq, Repr

/-- The 16-bit operands of LXI, INX, DCX and DAD (`10_state.md` R23). -/
inductive Pair where
  | bc | de | hl | sp
  deriving DecidableEq, Repr

/-- The 16-bit operands of PUSH and POP (`10_state.md` R23). -/
inductive StackPair where
  | bc | de | hl | psw
  deriving DecidableEq, Repr

/-- The pairs LDAX and STAX can name (`10_state.md` R23). -/
inductive IndexPair where
  | bc | de
  deriving DecidableEq, Repr

/-- The eight conditions (`30_encoding.md` R94). -/
inductive Cond where
  | nz | z | nc | c | po | pe | p | m
  deriving DecidableEq, Repr

/-- The eight 8-bit operations on A (`30_encoding.md` R99). -/
inductive AluOp where
  | add | adc | sub | sbb | ana | xra | ora | cmp
  deriving DecidableEq, Repr

/-- The instructions, by length, then in the order of their first byte (those with operand bytes come
first: Lean's runtime bounds the position of a constructor that has fields). `d16`, `a16`, `d8` and `port`
are the operand bytes of `30_encoding.md` R92 and R93. `undocXX` are the 12 undocumented first bytes
of R101; they carry no operand, since with UNDOC_POLICY = fault only the first byte is read (R105). -/
inductive Instr where
  -- three bytes: opcode, low(d16 or a16), high
  | lxiB (d16 : Word)
  | lxiD (d16 : Word)
  | lxiH (d16 : Word)
  | shld (a16 : Word)
  | lhld (a16 : Word)
  | lxiSp (d16 : Word)
  | sta (a16 : Word)
  | lda (a16 : Word)
  | jnz (a16 : Word)
  | jmp (a16 : Word)
  | cnz (a16 : Word)
  | jz (a16 : Word)
  | cz (a16 : Word)
  | call (a16 : Word)
  | jnc (a16 : Word)
  | cnc (a16 : Word)
  | jc (a16 : Word)
  | cc (a16 : Word)
  | jpo (a16 : Word)
  | cpo (a16 : Word)
  | jpe (a16 : Word)
  | cpe (a16 : Word)
  | jp (a16 : Word)
  | cp (a16 : Word)
  | jm (a16 : Word)
  | cm (a16 : Word)
  -- two bytes: opcode, d8 or port
  | mviB (d8 : Byte)
  | mviC (d8 : Byte)
  | mviD (d8 : Byte)
  | mviE (d8 : Byte)
  | mviH (d8 : Byte)
  | mviL (d8 : Byte)
  | mviM (d8 : Byte)
  | mviA (d8 : Byte)
  | adi (d8 : Byte)
  | aci (d8 : Byte)
  | outPort (port : Byte)
  | sui (d8 : Byte)
  | inPort (port : Byte)
  | sbi (d8 : Byte)
  | ani (d8 : Byte)
  | xri (d8 : Byte)
  | ori (d8 : Byte)
  | cpi (d8 : Byte)
  -- one byte: opcode
  | nop | staxB | inxB | inrB | dcrB | rlc | undoc08 | dadB | ldaxB | dcxB | inrC | dcrC | rrc
  | undoc10 | staxD | inxD | inrD | dcrD | ral | undoc18 | dadD | ldaxD | dcxD | inrE | dcrE
  | rar | undoc20 | inxH | inrH | dcrH | daa | undoc28 | dadH | dcxH | inrL | dcrL | cma
  | undoc30 | inxSp | inrM | dcrM | stc | undoc38 | dadSp | dcxSp | inrA | dcrA | cmc | movBB
  | movBC | movBD | movBE | movBH | movBL | movBM | movBA | movCB | movCC | movCD | movCE
  | movCH | movCL | movCM | movCA | movDB | movDC | movDD | movDE | movDH | movDL | movDM
  | movDA | movEB | movEC | movED | movEE | movEH | movEL | movEM | movEA | movHB | movHC
  | movHD | movHE | movHH | movHL | movHM | movHA | movLB | movLC | movLD | movLE | movLH
  | movLL | movLM | movLA | movMB | movMC | movMD | movME | movMH | movML | hlt | movMA | movAB
  | movAC | movAD | movAE | movAH | movAL | movAM | movAA | addB | addC | addD | addE | addH
  | addL | addM | addA | adcB | adcC | adcD | adcE | adcH | adcL | adcM | adcA | subB | subC
  | subD | subE | subH | subL | subM | subA | sbbB | sbbC | sbbD | sbbE | sbbH | sbbL | sbbM
  | sbbA | anaB | anaC | anaD | anaE | anaH | anaL | anaM | anaA | xraB | xraC | xraD | xraE
  | xraH | xraL | xraM | xraA | oraB | oraC | oraD | oraE | oraH | oraL | oraM | oraA | cmpB
  | cmpC | cmpD | cmpE | cmpH | cmpL | cmpM | cmpA | rnz | popB | pushB | rst0 | rz | ret
  | undocCB | rst1 | rnc | popD | pushD | rst2 | rc | undocD9 | undocDD | rst3 | rpo | popH
  | xthl | pushH | rst4 | rpe | pchl | xchg | undocED | rst5 | rp | popPsw | di | pushPsw
  | rst6 | rm | sphl | ei | undocFD | rst7
  deriving DecidableEq, Repr

/-- `MOV r1,r2` (`40_data_transfer.md` R120). -/
def Instr.mov : Reg → Reg → Instr
  | .b, .b => .movBB
  | .b, .c => .movBC
  | .b, .d => .movBD
  | .b, .e => .movBE
  | .b, .h => .movBH
  | .b, .l => .movBL
  | .b, .a => .movBA
  | .c, .b => .movCB
  | .c, .c => .movCC
  | .c, .d => .movCD
  | .c, .e => .movCE
  | .c, .h => .movCH
  | .c, .l => .movCL
  | .c, .a => .movCA
  | .d, .b => .movDB
  | .d, .c => .movDC
  | .d, .d => .movDD
  | .d, .e => .movDE
  | .d, .h => .movDH
  | .d, .l => .movDL
  | .d, .a => .movDA
  | .e, .b => .movEB
  | .e, .c => .movEC
  | .e, .d => .movED
  | .e, .e => .movEE
  | .e, .h => .movEH
  | .e, .l => .movEL
  | .e, .a => .movEA
  | .h, .b => .movHB
  | .h, .c => .movHC
  | .h, .d => .movHD
  | .h, .e => .movHE
  | .h, .h => .movHH
  | .h, .l => .movHL
  | .h, .a => .movHA
  | .l, .b => .movLB
  | .l, .c => .movLC
  | .l, .d => .movLD
  | .l, .e => .movLE
  | .l, .h => .movLH
  | .l, .l => .movLL
  | .l, .a => .movLA
  | .a, .b => .movAB
  | .a, .c => .movAC
  | .a, .d => .movAD
  | .a, .e => .movAE
  | .a, .h => .movAH
  | .a, .l => .movAL
  | .a, .a => .movAA

/-- `MOV r,M` (R121). -/
def Instr.movFromM : Reg → Instr
  | .b => .movBM
  | .c => .movCM
  | .d => .movDM
  | .e => .movEM
  | .h => .movHM
  | .l => .movLM
  | .a => .movAM

/-- `MOV M,r` (R122). -/
def Instr.movToM : Reg → Instr
  | .b => .movMB
  | .c => .movMC
  | .d => .movMD
  | .e => .movME
  | .h => .movMH
  | .l => .movML
  | .a => .movMA

/-- `MVI r,d8` (R123). -/
def Instr.mvi : Reg → Byte → Instr
  | .b, d8 => .mviB d8
  | .c, d8 => .mviC d8
  | .d, d8 => .mviD d8
  | .e, d8 => .mviE d8
  | .h, d8 => .mviH d8
  | .l, d8 => .mviL d8
  | .a, d8 => .mviA d8

/-- `LXI rp,d16` (R125). -/
def Instr.lxi : Pair → Word → Instr
  | .bc, d16 => .lxiB d16
  | .de, d16 => .lxiD d16
  | .hl, d16 => .lxiH d16
  | .sp, d16 => .lxiSp d16

/-- `LDAX rp` (R130). -/
def Instr.ldax : IndexPair → Instr
  | .bc => .ldaxB
  | .de => .ldaxD

/-- `STAX rp` (R131). -/
def Instr.stax : IndexPair → Instr
  | .bc => .staxB
  | .de => .staxD

/-- `INR r` (`41_arithmetic.md` R154). -/
def Instr.inr : Reg → Instr
  | .b => .inrB
  | .c => .inrC
  | .d => .inrD
  | .e => .inrE
  | .h => .inrH
  | .l => .inrL
  | .a => .inrA

/-- `DCR r` (R156). -/
def Instr.dcr : Reg → Instr
  | .b => .dcrB
  | .c => .dcrC
  | .d => .dcrD
  | .e => .dcrE
  | .h => .dcrH
  | .l => .dcrL
  | .a => .dcrA

/-- `INX rp` (R158). -/
def Instr.inx : Pair → Instr
  | .bc => .inxB
  | .de => .inxD
  | .hl => .inxH
  | .sp => .inxSp

/-- `DCX rp` (R159). -/
def Instr.dcx : Pair → Instr
  | .bc => .dcxB
  | .de => .dcxD
  | .hl => .dcxH
  | .sp => .dcxSp

/-- `DAD rp` (R160). -/
def Instr.dad : Pair → Instr
  | .bc => .dadB
  | .de => .dadD
  | .hl => .dadH
  | .sp => .dadSp

/-- The register ALU quadrant, `0b10ooosss` with `sss` a register (`30_encoding.md` R99). -/
def Instr.aluReg : AluOp → Reg → Instr
  | .add, .b => .addB
  | .add, .c => .addC
  | .add, .d => .addD
  | .add, .e => .addE
  | .add, .h => .addH
  | .add, .l => .addL
  | .add, .a => .addA
  | .adc, .b => .adcB
  | .adc, .c => .adcC
  | .adc, .d => .adcD
  | .adc, .e => .adcE
  | .adc, .h => .adcH
  | .adc, .l => .adcL
  | .adc, .a => .adcA
  | .sub, .b => .subB
  | .sub, .c => .subC
  | .sub, .d => .subD
  | .sub, .e => .subE
  | .sub, .h => .subH
  | .sub, .l => .subL
  | .sub, .a => .subA
  | .sbb, .b => .sbbB
  | .sbb, .c => .sbbC
  | .sbb, .d => .sbbD
  | .sbb, .e => .sbbE
  | .sbb, .h => .sbbH
  | .sbb, .l => .sbbL
  | .sbb, .a => .sbbA
  | .ana, .b => .anaB
  | .ana, .c => .anaC
  | .ana, .d => .anaD
  | .ana, .e => .anaE
  | .ana, .h => .anaH
  | .ana, .l => .anaL
  | .ana, .a => .anaA
  | .xra, .b => .xraB
  | .xra, .c => .xraC
  | .xra, .d => .xraD
  | .xra, .e => .xraE
  | .xra, .h => .xraH
  | .xra, .l => .xraL
  | .xra, .a => .xraA
  | .ora, .b => .oraB
  | .ora, .c => .oraC
  | .ora, .d => .oraD
  | .ora, .e => .oraE
  | .ora, .h => .oraH
  | .ora, .l => .oraL
  | .ora, .a => .oraA
  | .cmp, .b => .cmpB
  | .cmp, .c => .cmpC
  | .cmp, .d => .cmpD
  | .cmp, .e => .cmpE
  | .cmp, .h => .cmpH
  | .cmp, .l => .cmpL
  | .cmp, .a => .cmpA

/-- The ALU operations with operand M (R99). -/
def Instr.aluM : AluOp → Instr
  | .add => .addM
  | .adc => .adcM
  | .sub => .subM
  | .sbb => .sbbM
  | .ana => .anaM
  | .xra => .xraM
  | .ora => .oraM
  | .cmp => .cmpM

/-- The ALU operations with an immediate operand, `0b11ooo110` (R99). -/
def Instr.aluImm : AluOp → Byte → Instr
  | .add, d8 => .adi d8
  | .adc, d8 => .aci d8
  | .sub, d8 => .sui d8
  | .sbb, d8 => .sbi d8
  | .ana, d8 => .ani d8
  | .xra, d8 => .xri d8
  | .ora, d8 => .ori d8
  | .cmp, d8 => .cpi d8

/-- The conditional jumps (`44_branch.md` R202 to R209). -/
def Instr.jumpIf : Cond → Word → Instr
  | .nz, a16 => .jnz a16
  | .z, a16 => .jz a16
  | .nc, a16 => .jnc a16
  | .c, a16 => .jc a16
  | .po, a16 => .jpo a16
  | .pe, a16 => .jpe a16
  | .p, a16 => .jp a16
  | .m, a16 => .jm a16

/-- The conditional calls (R211 to R218). -/
def Instr.callIf : Cond → Word → Instr
  | .nz, a16 => .cnz a16
  | .z, a16 => .cz a16
  | .nc, a16 => .cnc a16
  | .c, a16 => .cc a16
  | .po, a16 => .cpo a16
  | .pe, a16 => .cpe a16
  | .p, a16 => .cp a16
  | .m, a16 => .cm a16

/-- The conditional returns (R220 to R227). -/
def Instr.retIf : Cond → Instr
  | .nz => .rnz
  | .z => .rz
  | .nc => .rnc
  | .c => .rc
  | .po => .rpo
  | .pe => .rpe
  | .p => .rp
  | .m => .rm

/-- `RST n` (R228). -/
def Instr.rst : Fin 8 → Instr
  | 0 => .rst0
  | 1 => .rst1
  | 2 => .rst2
  | 3 => .rst3
  | 4 => .rst4
  | 5 => .rst5
  | 6 => .rst6
  | 7 => .rst7

/-- `PUSH rp` and `PUSH PSW` (`45_stack.md` R241, R242). -/
def Instr.push : StackPair → Instr
  | .bc => .pushB
  | .de => .pushD
  | .hl => .pushH
  | .psw => .pushPsw

/-- `POP rp` and `POP PSW` (R243, R244). -/
def Instr.pop : StackPair → Instr
  | .bc => .popB
  | .de => .popD
  | .hl => .popH
  | .psw => .popPsw

/-- The length in bytes (`30_encoding.md` R90, with UNDOC_POLICY = fault). -/
def Instr.length : Instr → Nat
  | .nop | .staxB | .inxB | .inrB | .dcrB | .rlc | .undoc08 | .dadB | .ldaxB | .dcxB | .inrC
  | .dcrC | .rrc | .undoc10 | .staxD | .inxD | .inrD | .dcrD | .ral | .undoc18 | .dadD | .ldaxD
  | .dcxD | .inrE | .dcrE | .rar | .undoc20 | .inxH | .inrH | .dcrH | .daa | .undoc28 | .dadH
  | .dcxH | .inrL | .dcrL | .cma | .undoc30 | .inxSp | .inrM | .dcrM | .stc | .undoc38 | .dadSp
  | .dcxSp | .inrA | .dcrA | .cmc | .movBB | .movBC | .movBD | .movBE | .movBH | .movBL
  | .movBM | .movBA | .movCB | .movCC | .movCD | .movCE | .movCH | .movCL | .movCM | .movCA
  | .movDB | .movDC | .movDD | .movDE | .movDH | .movDL | .movDM | .movDA | .movEB | .movEC
  | .movED | .movEE | .movEH | .movEL | .movEM | .movEA | .movHB | .movHC | .movHD | .movHE
  | .movHH | .movHL | .movHM | .movHA | .movLB | .movLC | .movLD | .movLE | .movLH | .movLL
  | .movLM | .movLA | .movMB | .movMC | .movMD | .movME | .movMH | .movML | .hlt | .movMA
  | .movAB | .movAC | .movAD | .movAE | .movAH | .movAL | .movAM | .movAA | .addB | .addC
  | .addD | .addE | .addH | .addL | .addM | .addA | .adcB | .adcC | .adcD | .adcE | .adcH
  | .adcL | .adcM | .adcA | .subB | .subC | .subD | .subE | .subH | .subL | .subM | .subA
  | .sbbB | .sbbC | .sbbD | .sbbE | .sbbH | .sbbL | .sbbM | .sbbA | .anaB | .anaC | .anaD
  | .anaE | .anaH | .anaL | .anaM | .anaA | .xraB | .xraC | .xraD | .xraE | .xraH | .xraL
  | .xraM | .xraA | .oraB | .oraC | .oraD | .oraE | .oraH | .oraL | .oraM | .oraA | .cmpB
  | .cmpC | .cmpD | .cmpE | .cmpH | .cmpL | .cmpM | .cmpA | .rnz | .popB | .pushB | .rst0 | .rz
  | .ret | .undocCB | .rst1 | .rnc | .popD | .pushD | .rst2 | .rc | .undocD9 | .undocDD | .rst3
  | .rpo | .popH | .xthl | .pushH | .rst4 | .rpe | .pchl | .xchg | .undocED | .rst5 | .rp
  | .popPsw | .di | .pushPsw | .rst6 | .rm | .sphl | .ei | .undocFD | .rst7 => 1
  | .mviB _ | .mviC _ | .mviD _ | .mviE _ | .mviH _ | .mviL _ | .mviM _ | .mviA _ | .adi _
  | .aci _ | .outPort _ | .sui _ | .inPort _ | .sbi _ | .ani _ | .xri _ | .ori _ | .cpi _ => 2
  | .lxiB _ | .lxiD _ | .lxiH _ | .shld _ | .lhld _ | .lxiSp _ | .sta _ | .lda _ | .jnz _
  | .jmp _ | .cnz _ | .jz _ | .cz _ | .call _ | .jnc _ | .cnc _ | .jc _ | .cc _ | .jpo _
  | .cpo _ | .jpe _ | .cpe _ | .jp _ | .cp _ | .jm _ | .cm _ => 3

end Sys2Proof
end

