-- ==== Sys2Proof/Decode.lean ====
section
/-! DEFINITION. The decoder (first byte to instruction, `30_encoding.md` R90 to R102, R105), then the
encoder written from the same map, the byte-order helpers both use, and the reading of a table word. -/

namespace Sys2Proof

/-- `h ## l`: the 16-bit value with `h` in bits 15 to 8 (`00_scope.md` R8). -/
def pair (h l : Byte) : Word := h ++ l

/-- `hi(v)`, bits 15 to 8 (`00_scope.md` R8). -/
def hi (v : Word) : Byte := v.extractLsb' 8 8

/-- `lo(v)`, bits 7 to 0 (`00_scope.md` R8). -/
def lo (v : Word) : Byte := v.extractLsb' 0 8

/-- The register code `sss` or `ddd` (`10_state.md` R22). -/
def Reg.code : Reg → Byte
  | .b => 0 | .c => 1 | .d => 2 | .e => 3 | .h => 4 | .l => 5 | .a => 7

/-- The pair code `pp` of LXI, INX, DCX and DAD (`10_state.md` R23). -/
def Pair.code : Pair → Byte
  | .bc => 0 | .de => 1 | .hl => 2 | .sp => 3

/-- The pair code `pp` of PUSH and POP (`10_state.md` R23). -/
def StackPair.code : StackPair → Byte
  | .bc => 0 | .de => 1 | .hl => 2 | .psw => 3

/-- The pair code `p` of LDAX and STAX (`10_state.md` R23). -/
def IndexPair.code : IndexPair → Byte
  | .bc => 0 | .de => 1

/-- The condition code `ccc` (`30_encoding.md` R94). -/
def Cond.code : Cond → Byte
  | .nz => 0 | .z => 1 | .nc => 2 | .c => 3 | .po => 4 | .pe => 5 | .p => 6 | .m => 7

/-- The operation code `ooo` (`30_encoding.md` R99). -/
def AluOp.code : AluOp → Byte
  | .add => 0 | .adc => 1 | .sub => 2 | .sbb => 3 | .ana => 4 | .xra => 5 | .ora => 6 | .cmp => 7

/-- The length the first byte alone decides (`30_encoding.md` R90): 3 for LXI, SHLD, LHLD, STA, LDA,
JMP, CALL and the conditional jumps (`11ccc010`) and calls (`11ccc100`); 2 for MVI (`00ddd110`), the
ALU immediates (`11xxx110`), OUT and IN; 1 for every other byte. The undocumented bytes are read
alone, as R105 says for UNDOC_POLICY = fault. -/
def opcodeLength (op : Byte) : Nat :=
  if op ∈ ([0x01, 0x11, 0x21, 0x31, 0x22, 0x2A, 0x32, 0x3A, 0xC3, 0xCD] : List Byte)
      ∨ op &&& 0xC7 = 0xC2 ∨ op &&& 0xC7 = 0xC4 then 3
  else if op &&& 0xC7 = 0x06 ∨ op &&& 0xC7 = 0xC6 ∨ op = 0xD3 ∨ op = 0xDB then 2
  else 1

/-- The 12 first bytes outside the documented set (`30_encoding.md` R101). -/
def undocumentedOpcodes : List Byte :=
  [0x08, 0x10, 0x18, 0x20, 0x28, 0x30, 0x38, 0xCB, 0xD9, 0xDD, 0xED, 0xFD]

/-- One entry of the opcode map: the instruction, from the second and third bytes. -/
abbrev MapEntry := Byte → Byte → Instr

/-- Row 0x of the opcode map (`30_encoding.md`, summary grid of R97 to R100). -/
def opcodeRow0 : List MapEntry := [
  fun _ _ => .nop, fun b2 b3 => .lxiB (pair b3 b2), fun _ _ => .staxB, fun _ _ => .inxB,
  fun _ _ => .inrB, fun _ _ => .dcrB, fun b2 _ => .mviB b2, fun _ _ => .rlc,
  fun _ _ => .undoc08, fun _ _ => .dadB, fun _ _ => .ldaxB, fun _ _ => .dcxB,
  fun _ _ => .inrC, fun _ _ => .dcrC, fun b2 _ => .mviC b2, fun _ _ => .rrc]

/-- Row 1x of the opcode map (`30_encoding.md`, summary grid of R97 to R100). -/
def opcodeRow1 : List MapEntry := [
  fun _ _ => .undoc10, fun b2 b3 => .lxiD (pair b3 b2), fun _ _ => .staxD, fun _ _ => .inxD,
  fun _ _ => .inrD, fun _ _ => .dcrD, fun b2 _ => .mviD b2, fun _ _ => .ral,
  fun _ _ => .undoc18, fun _ _ => .dadD, fun _ _ => .ldaxD, fun _ _ => .dcxD,
  fun _ _ => .inrE, fun _ _ => .dcrE, fun b2 _ => .mviE b2, fun _ _ => .rar]

/-- Row 2x of the opcode map (`30_encoding.md`, summary grid of R97 to R100). -/
def opcodeRow2 : List MapEntry := [
  fun _ _ => .undoc20, fun b2 b3 => .lxiH (pair b3 b2), fun b2 b3 => .shld (pair b3 b2), fun _ _ => .inxH,
  fun _ _ => .inrH, fun _ _ => .dcrH, fun b2 _ => .mviH b2, fun _ _ => .daa,
  fun _ _ => .undoc28, fun _ _ => .dadH, fun b2 b3 => .lhld (pair b3 b2), fun _ _ => .dcxH,
  fun _ _ => .inrL, fun _ _ => .dcrL, fun b2 _ => .mviL b2, fun _ _ => .cma]

/-- Row 3x of the opcode map (`30_encoding.md`, summary grid of R97 to R100). -/
def opcodeRow3 : List MapEntry := [
  fun _ _ => .undoc30, fun b2 b3 => .lxiSp (pair b3 b2), fun b2 b3 => .sta (pair b3 b2), fun _ _ => .inxSp,
  fun _ _ => .inrM, fun _ _ => .dcrM, fun b2 _ => .mviM b2, fun _ _ => .stc,
  fun _ _ => .undoc38, fun _ _ => .dadSp, fun b2 b3 => .lda (pair b3 b2), fun _ _ => .dcxSp,
  fun _ _ => .inrA, fun _ _ => .dcrA, fun b2 _ => .mviA b2, fun _ _ => .cmc]

/-- Row 4x of the opcode map (`30_encoding.md`, summary grid of R97 to R100). -/
def opcodeRow4 : List MapEntry := [
  fun _ _ => .movBB, fun _ _ => .movBC, fun _ _ => .movBD, fun _ _ => .movBE,
  fun _ _ => .movBH, fun _ _ => .movBL, fun _ _ => .movBM, fun _ _ => .movBA,
  fun _ _ => .movCB, fun _ _ => .movCC, fun _ _ => .movCD, fun _ _ => .movCE,
  fun _ _ => .movCH, fun _ _ => .movCL, fun _ _ => .movCM, fun _ _ => .movCA]

/-- Row 5x of the opcode map (`30_encoding.md`, summary grid of R97 to R100). -/
def opcodeRow5 : List MapEntry := [
  fun _ _ => .movDB, fun _ _ => .movDC, fun _ _ => .movDD, fun _ _ => .movDE,
  fun _ _ => .movDH, fun _ _ => .movDL, fun _ _ => .movDM, fun _ _ => .movDA,
  fun _ _ => .movEB, fun _ _ => .movEC, fun _ _ => .movED, fun _ _ => .movEE,
  fun _ _ => .movEH, fun _ _ => .movEL, fun _ _ => .movEM, fun _ _ => .movEA]

/-- Row 6x of the opcode map (`30_encoding.md`, summary grid of R97 to R100). -/
def opcodeRow6 : List MapEntry := [
  fun _ _ => .movHB, fun _ _ => .movHC, fun _ _ => .movHD, fun _ _ => .movHE,
  fun _ _ => .movHH, fun _ _ => .movHL, fun _ _ => .movHM, fun _ _ => .movHA,
  fun _ _ => .movLB, fun _ _ => .movLC, fun _ _ => .movLD, fun _ _ => .movLE,
  fun _ _ => .movLH, fun _ _ => .movLL, fun _ _ => .movLM, fun _ _ => .movLA]

/-- Row 7x of the opcode map (`30_encoding.md`, summary grid of R97 to R100). -/
def opcodeRow7 : List MapEntry := [
  fun _ _ => .movMB, fun _ _ => .movMC, fun _ _ => .movMD, fun _ _ => .movME,
  fun _ _ => .movMH, fun _ _ => .movML, fun _ _ => .hlt, fun _ _ => .movMA,
  fun _ _ => .movAB, fun _ _ => .movAC, fun _ _ => .movAD, fun _ _ => .movAE,
  fun _ _ => .movAH, fun _ _ => .movAL, fun _ _ => .movAM, fun _ _ => .movAA]

/-- Row 8x of the opcode map (`30_encoding.md`, summary grid of R97 to R100). -/
def opcodeRow8 : List MapEntry := [
  fun _ _ => .addB, fun _ _ => .addC, fun _ _ => .addD, fun _ _ => .addE,
  fun _ _ => .addH, fun _ _ => .addL, fun _ _ => .addM, fun _ _ => .addA,
  fun _ _ => .adcB, fun _ _ => .adcC, fun _ _ => .adcD, fun _ _ => .adcE,
  fun _ _ => .adcH, fun _ _ => .adcL, fun _ _ => .adcM, fun _ _ => .adcA]

/-- Row 9x of the opcode map (`30_encoding.md`, summary grid of R97 to R100). -/
def opcodeRow9 : List MapEntry := [
  fun _ _ => .subB, fun _ _ => .subC, fun _ _ => .subD, fun _ _ => .subE,
  fun _ _ => .subH, fun _ _ => .subL, fun _ _ => .subM, fun _ _ => .subA,
  fun _ _ => .sbbB, fun _ _ => .sbbC, fun _ _ => .sbbD, fun _ _ => .sbbE,
  fun _ _ => .sbbH, fun _ _ => .sbbL, fun _ _ => .sbbM, fun _ _ => .sbbA]

/-- Row Ax of the opcode map (`30_encoding.md`, summary grid of R97 to R100). -/
def opcodeRowA : List MapEntry := [
  fun _ _ => .anaB, fun _ _ => .anaC, fun _ _ => .anaD, fun _ _ => .anaE,
  fun _ _ => .anaH, fun _ _ => .anaL, fun _ _ => .anaM, fun _ _ => .anaA,
  fun _ _ => .xraB, fun _ _ => .xraC, fun _ _ => .xraD, fun _ _ => .xraE,
  fun _ _ => .xraH, fun _ _ => .xraL, fun _ _ => .xraM, fun _ _ => .xraA]

/-- Row Bx of the opcode map (`30_encoding.md`, summary grid of R97 to R100). -/
def opcodeRowB : List MapEntry := [
  fun _ _ => .oraB, fun _ _ => .oraC, fun _ _ => .oraD, fun _ _ => .oraE,
  fun _ _ => .oraH, fun _ _ => .oraL, fun _ _ => .oraM, fun _ _ => .oraA,
  fun _ _ => .cmpB, fun _ _ => .cmpC, fun _ _ => .cmpD, fun _ _ => .cmpE,
  fun _ _ => .cmpH, fun _ _ => .cmpL, fun _ _ => .cmpM, fun _ _ => .cmpA]

/-- Row Cx of the opcode map (`30_encoding.md`, summary grid of R97 to R100). -/
def opcodeRowC : List MapEntry := [
  fun _ _ => .rnz, fun _ _ => .popB, fun b2 b3 => .jnz (pair b3 b2), fun b2 b3 => .jmp (pair b3 b2),
  fun b2 b3 => .cnz (pair b3 b2), fun _ _ => .pushB, fun b2 _ => .adi b2, fun _ _ => .rst0,
  fun _ _ => .rz, fun _ _ => .ret, fun b2 b3 => .jz (pair b3 b2), fun _ _ => .undocCB,
  fun b2 b3 => .cz (pair b3 b2), fun b2 b3 => .call (pair b3 b2), fun b2 _ => .aci b2, fun _ _ => .rst1]

/-- Row Dx of the opcode map (`30_encoding.md`, summary grid of R97 to R100). -/
def opcodeRowD : List MapEntry := [
  fun _ _ => .rnc, fun _ _ => .popD, fun b2 b3 => .jnc (pair b3 b2), fun b2 _ => .outPort b2,
  fun b2 b3 => .cnc (pair b3 b2), fun _ _ => .pushD, fun b2 _ => .sui b2, fun _ _ => .rst2,
  fun _ _ => .rc, fun _ _ => .undocD9, fun b2 b3 => .jc (pair b3 b2), fun b2 _ => .inPort b2,
  fun b2 b3 => .cc (pair b3 b2), fun _ _ => .undocDD, fun b2 _ => .sbi b2, fun _ _ => .rst3]

/-- Row Ex of the opcode map (`30_encoding.md`, summary grid of R97 to R100). -/
def opcodeRowE : List MapEntry := [
  fun _ _ => .rpo, fun _ _ => .popH, fun b2 b3 => .jpo (pair b3 b2), fun _ _ => .xthl,
  fun b2 b3 => .cpo (pair b3 b2), fun _ _ => .pushH, fun b2 _ => .ani b2, fun _ _ => .rst4,
  fun _ _ => .rpe, fun _ _ => .pchl, fun b2 b3 => .jpe (pair b3 b2), fun _ _ => .xchg,
  fun b2 b3 => .cpe (pair b3 b2), fun _ _ => .undocED, fun b2 _ => .xri b2, fun _ _ => .rst5]

/-- Row Fx of the opcode map (`30_encoding.md`, summary grid of R97 to R100). -/
def opcodeRowF : List MapEntry := [
  fun _ _ => .rp, fun _ _ => .popPsw, fun b2 b3 => .jp (pair b3 b2), fun _ _ => .di,
  fun b2 b3 => .cp (pair b3 b2), fun _ _ => .pushPsw, fun b2 _ => .ori b2, fun _ _ => .rst6,
  fun _ _ => .rm, fun _ _ => .sphl, fun b2 b3 => .jm (pair b3 b2), fun _ _ => .ei,
  fun b2 b3 => .cm (pair b3 b2), fun _ _ => .undocFD, fun b2 _ => .cpi b2, fun _ _ => .rst7]

/-- The opcode map: 256 entries, one per first byte, in order (`30_encoding.md` R96). -/
def opcodeMap : List MapEntry :=
  opcodeRow0 ++ opcodeRow1 ++ opcodeRow2 ++ opcodeRow3 ++ opcodeRow4 ++ opcodeRow5 ++ opcodeRow6 ++
  opcodeRow7 ++ opcodeRow8 ++ opcodeRow9 ++ opcodeRowA ++ opcodeRowB ++ opcodeRowC ++ opcodeRowD ++
  opcodeRowE ++ opcodeRowF

theorem opcodeMap_length : opcodeMap.length = 256 := by
  simp only [opcodeMap, List.length_append]
  decide

/-- The instruction of first byte `op`, second byte `b2`, third byte `b3` (each read only if the
instruction has it). Total: every first byte has exactly one meaning (`30_encoding.md` R96). -/
def decodeOp (op b2 b3 : Byte) : Instr :=
  opcodeMap.get ⟨op.toNat, opcodeMap_length ▸ op.isLt⟩ b2 b3

/-- Why a list of bytes holds no instruction. -/
inductive DecodeError where
  /-- There is no first byte. -/
  | noBytes
  /-- The first byte calls for `needed` bytes and the list has only `have_`. -/
  | truncated (opcode : Byte) (needed have_ : Nat)
  deriving DecidableEq, Repr

/-- Decode the instruction a list of bytes begins with, and give the bytes after it. A list too short
for its first byte is rejected by name; there is no other rejection (R96, R101). -/
def decode : List Byte → Except DecodeError (Instr × List Byte)
  | [] => .error .noBytes
  | op :: rest =>
    if opcodeLength op = 1 then .ok (decodeOp op 0 0, rest)
    else match rest with
      | [] => .error (.truncated op (opcodeLength op) 1)
      | b2 :: rest2 =>
        if opcodeLength op = 2 then .ok (decodeOp op b2 0, rest2)
        else match rest2 with
          | [] => .error (.truncated op (opcodeLength op) 2)
          | b3 :: rest3 => .ok (decodeOp op b2 b3, rest3)

/-- The bytes of an instruction, first byte first, a 16-bit operand low byte first (`30_encoding.md`
R93, R97 to R100). -/
def encode : Instr → List Byte
  | .nop => [0x00]
  | .lxiB d16 => [0x01, lo d16, hi d16]
  | .staxB => [0x02]
  | .inxB => [0x03]
  | .inrB => [0x04]
  | .dcrB => [0x05]
  | .mviB d8 => [0x06, d8]
  | .rlc => [0x07]
  | .undoc08 => [0x08]
  | .dadB => [0x09]
  | .ldaxB => [0x0A]
  | .dcxB => [0x0B]
  | .inrC => [0x0C]
  | .dcrC => [0x0D]
  | .mviC d8 => [0x0E, d8]
  | .rrc => [0x0F]
  | .undoc10 => [0x10]
  | .lxiD d16 => [0x11, lo d16, hi d16]
  | .staxD => [0x12]
  | .inxD => [0x13]
  | .inrD => [0x14]
  | .dcrD => [0x15]
  | .mviD d8 => [0x16, d8]
  | .ral => [0x17]
  | .undoc18 => [0x18]
  | .dadD => [0x19]
  | .ldaxD => [0x1A]
  | .dcxD => [0x1B]
  | .inrE => [0x1C]
  | .dcrE => [0x1D]
  | .mviE d8 => [0x1E, d8]
  | .rar => [0x1F]
  | .undoc20 => [0x20]
  | .lxiH d16 => [0x21, lo d16, hi d16]
  | .shld a16 => [0x22, lo a16, hi a16]
  | .inxH => [0x23]
  | .inrH => [0x24]
  | .dcrH => [0x25]
  | .mviH d8 => [0x26, d8]
  | .daa => [0x27]
  | .undoc28 => [0x28]
  | .dadH => [0x29]
  | .lhld a16 => [0x2A, lo a16, hi a16]
  | .dcxH => [0x2B]
  | .inrL => [0x2C]
  | .dcrL => [0x2D]
  | .mviL d8 => [0x2E, d8]
  | .cma => [0x2F]
  | .undoc30 => [0x30]
  | .lxiSp d16 => [0x31, lo d16, hi d16]
  | .sta a16 => [0x32, lo a16, hi a16]
  | .inxSp => [0x33]
  | .inrM => [0x34]
  | .dcrM => [0x35]
  | .mviM d8 => [0x36, d8]
  | .stc => [0x37]
  | .undoc38 => [0x38]
  | .dadSp => [0x39]
  | .lda a16 => [0x3A, lo a16, hi a16]
  | .dcxSp => [0x3B]
  | .inrA => [0x3C]
  | .dcrA => [0x3D]
  | .mviA d8 => [0x3E, d8]
  | .cmc => [0x3F]
  | .movBB => [0x40]
  | .movBC => [0x41]
  | .movBD => [0x42]
  | .movBE => [0x43]
  | .movBH => [0x44]
  | .movBL => [0x45]
  | .movBM => [0x46]
  | .movBA => [0x47]
  | .movCB => [0x48]
  | .movCC => [0x49]
  | .movCD => [0x4A]
  | .movCE => [0x4B]
  | .movCH => [0x4C]
  | .movCL => [0x4D]
  | .movCM => [0x4E]
  | .movCA => [0x4F]
  | .movDB => [0x50]
  | .movDC => [0x51]
  | .movDD => [0x52]
  | .movDE => [0x53]
  | .movDH => [0x54]
  | .movDL => [0x55]
  | .movDM => [0x56]
  | .movDA => [0x57]
  | .movEB => [0x58]
  | .movEC => [0x59]
  | .movED => [0x5A]
  | .movEE => [0x5B]
  | .movEH => [0x5C]
  | .movEL => [0x5D]
  | .movEM => [0x5E]
  | .movEA => [0x5F]
  | .movHB => [0x60]
  | .movHC => [0x61]
  | .movHD => [0x62]
  | .movHE => [0x63]
  | .movHH => [0x64]
  | .movHL => [0x65]
  | .movHM => [0x66]
  | .movHA => [0x67]
  | .movLB => [0x68]
  | .movLC => [0x69]
  | .movLD => [0x6A]
  | .movLE => [0x6B]
  | .movLH => [0x6C]
  | .movLL => [0x6D]
  | .movLM => [0x6E]
  | .movLA => [0x6F]
  | .movMB => [0x70]
  | .movMC => [0x71]
  | .movMD => [0x72]
  | .movME => [0x73]
  | .movMH => [0x74]
  | .movML => [0x75]
  | .hlt => [0x76]
  | .movMA => [0x77]
  | .movAB => [0x78]
  | .movAC => [0x79]
  | .movAD => [0x7A]
  | .movAE => [0x7B]
  | .movAH => [0x7C]
  | .movAL => [0x7D]
  | .movAM => [0x7E]
  | .movAA => [0x7F]
  | .addB => [0x80]
  | .addC => [0x81]
  | .addD => [0x82]
  | .addE => [0x83]
  | .addH => [0x84]
  | .addL => [0x85]
  | .addM => [0x86]
  | .addA => [0x87]
  | .adcB => [0x88]
  | .adcC => [0x89]
  | .adcD => [0x8A]
  | .adcE => [0x8B]
  | .adcH => [0x8C]
  | .adcL => [0x8D]
  | .adcM => [0x8E]
  | .adcA => [0x8F]
  | .subB => [0x90]
  | .subC => [0x91]
  | .subD => [0x92]
  | .subE => [0x93]
  | .subH => [0x94]
  | .subL => [0x95]
  | .subM => [0x96]
  | .subA => [0x97]
  | .sbbB => [0x98]
  | .sbbC => [0x99]
  | .sbbD => [0x9A]
  | .sbbE => [0x9B]
  | .sbbH => [0x9C]
  | .sbbL => [0x9D]
  | .sbbM => [0x9E]
  | .sbbA => [0x9F]
  | .anaB => [0xA0]
  | .anaC => [0xA1]
  | .anaD => [0xA2]
  | .anaE => [0xA3]
  | .anaH => [0xA4]
  | .anaL => [0xA5]
  | .anaM => [0xA6]
  | .anaA => [0xA7]
  | .xraB => [0xA8]
  | .xraC => [0xA9]
  | .xraD => [0xAA]
  | .xraE => [0xAB]
  | .xraH => [0xAC]
  | .xraL => [0xAD]
  | .xraM => [0xAE]
  | .xraA => [0xAF]
  | .oraB => [0xB0]
  | .oraC => [0xB1]
  | .oraD => [0xB2]
  | .oraE => [0xB3]
  | .oraH => [0xB4]
  | .oraL => [0xB5]
  | .oraM => [0xB6]
  | .oraA => [0xB7]
  | .cmpB => [0xB8]
  | .cmpC => [0xB9]
  | .cmpD => [0xBA]
  | .cmpE => [0xBB]
  | .cmpH => [0xBC]
  | .cmpL => [0xBD]
  | .cmpM => [0xBE]
  | .cmpA => [0xBF]
  | .rnz => [0xC0]
  | .popB => [0xC1]
  | .jnz a16 => [0xC2, lo a16, hi a16]
  | .jmp a16 => [0xC3, lo a16, hi a16]
  | .cnz a16 => [0xC4, lo a16, hi a16]
  | .pushB => [0xC5]
  | .adi d8 => [0xC6, d8]
  | .rst0 => [0xC7]
  | .rz => [0xC8]
  | .ret => [0xC9]
  | .jz a16 => [0xCA, lo a16, hi a16]
  | .undocCB => [0xCB]
  | .cz a16 => [0xCC, lo a16, hi a16]
  | .call a16 => [0xCD, lo a16, hi a16]
  | .aci d8 => [0xCE, d8]
  | .rst1 => [0xCF]
  | .rnc => [0xD0]
  | .popD => [0xD1]
  | .jnc a16 => [0xD2, lo a16, hi a16]
  | .outPort port => [0xD3, port]
  | .cnc a16 => [0xD4, lo a16, hi a16]
  | .pushD => [0xD5]
  | .sui d8 => [0xD6, d8]
  | .rst2 => [0xD7]
  | .rc => [0xD8]
  | .undocD9 => [0xD9]
  | .jc a16 => [0xDA, lo a16, hi a16]
  | .inPort port => [0xDB, port]
  | .cc a16 => [0xDC, lo a16, hi a16]
  | .undocDD => [0xDD]
  | .sbi d8 => [0xDE, d8]
  | .rst3 => [0xDF]
  | .rpo => [0xE0]
  | .popH => [0xE1]
  | .jpo a16 => [0xE2, lo a16, hi a16]
  | .xthl => [0xE3]
  | .cpo a16 => [0xE4, lo a16, hi a16]
  | .pushH => [0xE5]
  | .ani d8 => [0xE6, d8]
  | .rst4 => [0xE7]
  | .rpe => [0xE8]
  | .pchl => [0xE9]
  | .jpe a16 => [0xEA, lo a16, hi a16]
  | .xchg => [0xEB]
  | .cpe a16 => [0xEC, lo a16, hi a16]
  | .undocED => [0xED]
  | .xri d8 => [0xEE, d8]
  | .rst5 => [0xEF]
  | .rp => [0xF0]
  | .popPsw => [0xF1]
  | .jp a16 => [0xF2, lo a16, hi a16]
  | .di => [0xF3]
  | .cp a16 => [0xF4, lo a16, hi a16]
  | .pushPsw => [0xF5]
  | .ori d8 => [0xF6, d8]
  | .rst6 => [0xF7]
  | .rm => [0xF8]
  | .sphl => [0xF9]
  | .jm a16 => [0xFA, lo a16, hi a16]
  | .ei => [0xFB]
  | .cm a16 => [0xFC, lo a16, hi a16]
  | .undocFD => [0xFD]
  | .cpi d8 => [0xFE, d8]
  | .rst7 => [0xFF]

/-- Byte `k` of an instruction word as opcode_table.json numbers its bits: bits 8k+7 to 8k, the bits
from `nbits` on being zero. -/
def tableByte (nbits w k : Nat) : Byte := BitVec.ofNat 8 (w % 2 ^ nbits / 2 ^ (8 * k))

/-- The three bytes a table word lays down in memory, the first at the lowest address. -/
def tableBytes (nbits w : Nat) : List Byte :=
  [tableByte nbits w 0, tableByte nbits w 1, tableByte nbits w 2]

/-- The instruction this decoder reads from an instruction whose bits are `w`, numbered as
opcode_table.json numbers them. -/
def decodeTableWord (nbits w : Nat) : Option Instr :=
  match decode (tableBytes nbits w) with
  | .ok (i, _) => some i
  | .error _ => none

end Sys2Proof
end

