-- ==== Sys2Proof/Config.lean ====
section
/-! DEFINITION. The implementation parameters of `00_scope.md` rule R7 as one configuration record,
and the values this hardware takes. No field is a free value: the spec gives each a value. -/

namespace Sys2Proof

/-- UNDOC_POLICY (`30_encoding.md` R101): what the 12 undocumented first bytes do. -/
inductive UndocPolicy where
  /-- Each raises UnsupportedInstruction (`60_exceptions.md` R270). -/
  | faults
  /-- Each acts as the documented instruction the silicon runs for it (NOP, JMP, RET, CALL). -/
  | aliases
  deriving DecidableEq, Repr

/-- The parameters of R7. The widths DATA_BITS, ADDR_BITS and PORT_BITS are the types `Byte` and
`Word`; MEM_SIZE is the range of `Word`. `ramBase` and `ramSize` are descriptive (`92_eei_decisions.md`
D13). `eiDelay` is read by no operation: the spec gives no rule for a value other than 0 (same file,
last section), and EI's meaning is the rule for 0. -/
structure Config where
  entryPoint : Word
  frameHz : Nat
  clockHz : Nat
  romSize : Nat
  ramBase : Nat
  ramSize : Nat
  vramBase : Nat
  vramSize : Nat
  romWriteProtect : Bool
  inp1Port : Byte
  inp2Port : Byte
  shiftAmountPort : Byte
  shiftDataPort : Byte
  shiftResultPort : Byte
  port1Init : Byte
  port2Init : Byte
  undocPolicy : UndocPolicy
  haltIdleCycles : Nat
  intAckCycles : Nat
  eiDelay : Nat
  pauseFreezes : Bool
  unspecFill : Nat
  deriving DecidableEq, Repr

/-- FRAME_CYCLES = CLOCK_HZ / FRAME_HZ, floor division (R7, decision D17). -/
def Config.frameCycles (cfg : Config) : Nat := cfg.clockHz / cfg.frameHz

/-- HALF_FRAME_CYCLES = FRAME_CYCLES / 2, floor division (R7, decision D17). -/
def Config.halfFrameCycles (cfg : Config) : Nat := cfg.frameCycles / 2

/-- The value column of R7: what this hardware takes. -/
def Config.hardware : Config where
  entryPoint := 0x0000
  frameHz := 60
  clockHz := 2000000
  romSize := 0x2000
  ramBase := 0x2000
  ramSize := 0x0400
  vramBase := 0x2400
  vramSize := 0x1C00
  romWriteProtect := false
  inp1Port := 1
  inp2Port := 2
  shiftAmountPort := 2
  shiftDataPort := 4
  shiftResultPort := 3
  port1Init := 0x00
  port2Init := 0x00
  undocPolicy := .faults
  haltIdleCycles := 4
  intAckCycles := 0
  eiDelay := 0
  pauseFreezes := true
  unspecFill := 0

end Sys2Proof
end

