-- ==== Sys2Proof/Machine/State.lean ====
section
/-! DEFINITION. The state of the machine as plain data (`10_state.md`), the reasons a step can stop,
and the state after reset (`10_state.md` R39, `70_reset_and_hazards.md` R310, R311). -/

namespace Sys2Proof.Machine

/-- The five condition flags (`10_state.md` R26). -/
structure Flags where
  s : Bool
  z : Bool
  ac : Bool
  p : Bool
  cy : Bool
  deriving DecidableEq, Repr

/-- STATUS, the run status of the block (`10_state.md` R31). -/
inductive Status where
  | running
  /-- UnsupportedInstruction was raised: the first byte and the address it was fetched from. -/
  | faulted (opcode : Byte) (pc : Word)
  deriving DecidableEq, Repr

/-- Where the scheduler stands in the pseudocode of `run_one_frame` (`60_exceptions.md` R284).
DESIGN CHOICE (log entry 5): the spec lets the position live inside the call; a machine whose step is
one `execute_one` call holds it in the state. -/
inductive Phase where
  /-- No call is in progress: the host has not called again since the last return. -/
  | betweenFrames
  /-- In the first loop, up to HALF_FRAME_CYCLES. -/
  | firstHalf
  /-- In the second loop, up to FRAME_CYCLES. -/
  | secondHalf
  deriving DecidableEq, Repr

/-- Memory: (address, byte) pairs, addresses strictly rising, no entry equal to `Memory.unlisted`. -/
abbrev Memory := List Host.Cell

/-- What an address with no entry reads as. The spec leaves memory outside the image unspecified and
gives UNSPEC_FILL for a deterministic machine (`10_state.md` R40). DESIGN CHOICE (log entry 3), unsafe. -/
def Memory.unlisted : Byte := BitVec.ofNat 8 Config.hardware.unspecFill

/-- The architectural state (`10_state.md` R20 to R37). -/
structure State where
  /-- Accumulator and general registers (R20). -/
  a : Byte
  b : Byte
  c : Byte
  d : Byte
  e : Byte
  h : Byte
  l : Byte
  /-- Stack pointer (R25). -/
  sp : Word
  /-- Program counter (R24). -/
  pc : Word
  /-- Condition flags (R26). -/
  flags : Flags
  /-- Interrupt enable (R29). -/
  inte : Bool
  /-- Set by HLT, cleared by an accepted interrupt (R30). -/
  halted : Bool
  /-- Run status (R31). -/
  status : Status
  /-- The 65,536 bytes of memory (R34). -/
  mem : Memory
  /-- The input-port bytes (R35). -/
  inp1 : Byte
  inp2 : Byte
  /-- The shifter's 16-bit value (R35). -/
  shift : BitVec 16
  /-- The shifter's 3-bit amount (R35). -/
  shamt : BitVec 3
  /-- The paused flag (R36). -/
  paused : Bool
  /-- Cycles of the frame in progress; between frames, what the last frame returned (R36, R284). -/
  cyc : Nat
  /-- The scheduler's position (the model's own field, log entry 5). -/
  phase : Phase
  deriving DecidableEq, Repr

/-- Why a step stops with a fault. -/
inductive Fault where
  /-- Raised by `executeOne` and `schedulerStep` when STATUS = Faulted(opcode, pc): no step exists
  (`60_exceptions.md` R271). Safe: the machine stops where the spec says it has no step. -/
  | faulted (opcode : Byte) (pc : Word)
  deriving DecidableEq, Repr

/-- Why something is refused: an instruction without a meaning, or a host call outside its precondition. -/
inductive Refusal where
  /-- Raised by `exec` for an instruction that has no meaning yet; no arm raises it. Safe. -/
  | notModelled (mnemonic : String)
  /-- Raised by `State.setInputBit` for a port other than 1 and 2 or a bit index above 7, a call with no
  meaning (`20_memory.md` R79). Safe. -/
  | badInputBit (port : Byte) (bitIndex : Nat)
  /-- Raised by `State.loadImage` and `launch` for an image that is too short or does not fit
  (`20_memory.md` R57). Safe. -/
  | badImage (length atAddr : Nat)
  /-- Raised by `framebufferByte` for an index outside video RAM (`20_memory.md` R67). Safe. -/
  | badFramebufferIndex (index : Nat)
  deriving DecidableEq, Repr

/-- The answer of a step. -/
abbrev Answer := Host.Outcome State Fault Refusal

/-- The state whose reset value the spec leaves unspecified (`10_state.md` R39): the free inputs of
the reset step (R40). -/
structure Unspecified where
  a : Byte
  b : Byte
  c : Byte
  d : Byte
  e : Byte
  h : Byte
  l : Byte
  sp : Word
  mem : Memory
  shift : BitVec 16
  shamt : BitVec 3
  deriving DecidableEq, Repr

/-- UNSPEC_FILL in all of it (R40). DESIGN CHOICE (log entries 1 to 4), unsafe. -/
def Unspecified.fill (n : Nat) : Unspecified where
  a := BitVec.ofNat 8 n
  b := BitVec.ofNat 8 n
  c := BitVec.ofNat 8 n
  d := BitVec.ofNat 8 n
  e := BitVec.ofNat 8 n
  h := BitVec.ofNat 8 n
  l := BitVec.ofNat 8 n
  sp := BitVec.ofNat 16 n
  mem := []
  shift := BitVec.ofNat 16 n
  shamt := BitVec.ofNat 3 n

/-- The machine after `reset`, for any choice of the unspecified state and any configuration
(`10_state.md` R39, R40). -/
def State.resetWith (cfg : Config) (u : Unspecified) : State where
  a := u.a
  b := u.b
  c := u.c
  d := u.d
  e := u.e
  h := u.h
  l := u.l
  sp := u.sp
  pc := cfg.entryPoint
  flags := { s := false, z := false, ac := false, p := false, cy := false }
  inte := false
  halted := false
  status := .running
  mem := u.mem
  inp1 := cfg.port1Init
  inp2 := cfg.port2Init
  shift := u.shift
  shamt := u.shamt
  paused := false
  cyc := 0
  phase := .betweenFrames

/-- The machine right after reset, before the host's `load_image` (`70_reset_and_hazards.md` R310
step 1), the unspecified state filled with UNSPEC_FILL. -/
def State.reset : State :=
  State.resetWith Config.hardware (Unspecified.fill Config.hardware.unspecFill)

end Sys2Proof.Machine
end

