-- ==== Sys2Proof/Machine/Flags.lean ====
section
/-! DEFINITION. The flag computations: `SetZSP` (`00_scope.md` R9), `ADD8` and `SUB8` (`41_arithmetic.md`
R140, R141), `LOGIC` (`42_logical.md` R170), INR and DCR (R154, R156), DAD (R160), DAA (R161), the
rotates (`43_rotate.md`), the flag byte (`10_state.md` R28) and the conditions (`44_branch.md` R200). -/

namespace Sys2Proof.Machine

/-- `parity(v)`: true when `v` has an even number of 1 bits (`00_scope.md` R9). -/
def parity (v : Byte) : Bool :=
  ([0, 1, 2, 3, 4, 5, 6, 7].map fun i => (v.getLsbD i).toNat).sum % 2 == 0

/-- `SetZSP(r)` with the two carries given (`00_scope.md` R9, `10_state.md` R26). -/
def flagsOf (r : Byte) (cy ac : Bool) : Flags where
  s := r.msb
  z := r == 0
  ac := ac
  p := parity r
  cy := cy

/-- `v[3:0]`. -/
def lowNibble (v : Byte) : Nat := v.toNat % 16

/-- `v[7:4]`. -/
def highNibble (v : Byte) : Nat := v.toNat / 16

/-- `ADD8(a, b, cin)`: the result and the flags (`41_arithmetic.md` R140). -/
def add8 (a b : Byte) (cin : Bool) : Byte × Flags :=
  let t := a.toNat + b.toNat + cin.toNat
  let r := BitVec.ofNat 8 t
  (r, flagsOf r (decide (t > 255)) (decide (lowNibble a + lowNibble b + cin.toNat > 15)))

/-- `SUB8(a, b, bin)`: the complement is added, CY is the inverted carry, AC is not inverted
(`41_arithmetic.md` R141). -/
def sub8 (a b : Byte) (bin : Bool) : Byte × Flags :=
  let t := a.toNat + (255 - b.toNat) + (1 - bin.toNat)
  let r := BitVec.ofNat 8 t
  (r, flagsOf r (!decide (t > 255))
    (decide (lowNibble a + (15 - lowNibble b) + (1 - bin.toNat) > 15)))

/-- `LOGIC(AND, a, b)`: AC is bit 3 of `a | b` (`42_logical.md` R170). -/
def logicAnd (a b : Byte) : Byte × Flags :=
  let r := a &&& b
  (r, flagsOf r false ((a ||| b).getLsbD 3))

/-- `LOGIC(XOR, a, b)` (`42_logical.md` R170). -/
def logicXor (a b : Byte) : Byte × Flags :=
  let r := a ^^^ b
  (r, flagsOf r false false)

/-- `LOGIC(OR, a, b)` (`42_logical.md` R170). -/
def logicOr (a b : Byte) : Byte × Flags :=
  let r := a ||| b
  (r, flagsOf r false false)

/-- The operation `ooo` on A and an operand: the new A and the flags (`30_encoding.md` R99). A compare
keeps A and writes the flags of a subtraction (`42_logical.md` R180). -/
def alu (op : AluOp) (a v : Byte) (cy : Bool) : Byte × Flags :=
  match op with
  | .add => add8 a v false
  | .adc => add8 a v cy
  | .sub => sub8 a v false
  | .sbb => sub8 a v cy
  | .ana => logicAnd a v
  | .xra => logicXor a v
  | .ora => logicOr a v
  | .cmp => (a, (sub8 a v false).2)

/-- INR of `v`: the result, and the flags with CY kept (`41_arithmetic.md` R154). -/
def inr8 (v : Byte) (f : Flags) : Byte × Flags :=
  let r := v + 1
  (r, flagsOf r f.cy (decide (lowNibble v = 15)))

/-- DCR of `v`: the result, and the flags with CY kept (`41_arithmetic.md` R156). -/
def dcr8 (v : Byte) (f : Flags) : Byte × Flags :=
  let r := v - 1
  (r, flagsOf r f.cy (decide (lowNibble v ≠ 0)))

/-- DAD: the 16-bit sum and the carry out of bit 15 (`41_arithmetic.md` R160). -/
def dad16 (hl v : Word) : Word × Bool :=
  let t := hl.toNat + v.toNat
  (BitVec.ofNat 16 t, decide (t > 65535))

/-- The low correction applies (`41_arithmetic.md` R161). -/
def daaLow (a : Byte) (f : Flags) : Bool := f.ac || decide (lowNibble a > 9)

/-- The high correction applies (`41_arithmetic.md` R161). -/
def daaHigh (a : Byte) (f : Flags) : Bool :=
  f.cy || decide (highNibble a > 9) || (decide (highNibble a ≥ 9) && decide (lowNibble a > 9))

/-- The correction byte of DAA (`41_arithmetic.md` R161). -/
def daaCorrection (a : Byte) (f : Flags) : Byte :=
  (if daaLow a f then 0x06 else 0x00) ||| (if daaHigh a f then 0x60 else 0x00)

/-- DAA: the new A and the flags; CY is set by the high correction and otherwise kept
(`41_arithmetic.md` R161). -/
def daa8 (a : Byte) (f : Flags) : Byte × Flags :=
  let corr := daaCorrection a f
  let r := BitVec.ofNat 8 (a.toNat + corr.toNat)
  (r, flagsOf r (f.cy || daaHigh a f) (decide (lowNibble a + lowNibble corr > 15)))

/-- RLC: A rotated left, and the bit moved out (`43_rotate.md` R190). -/
def rlc8 (a : Byte) : Byte × Bool :=
  (a.extractLsb' 0 7 ++ BitVec.ofBool a.msb, a.msb)

/-- RRC: A rotated right, and the bit moved out (R191). -/
def rrc8 (a : Byte) : Byte × Bool :=
  (BitVec.ofBool (a.getLsbD 0) ++ a.extractLsb' 1 7, a.getLsbD 0)

/-- RAL: A shifted left with the old CY entering bit 0, and the bit moved out (R192). -/
def ral8 (a : Byte) (cy : Bool) : Byte × Bool :=
  (a.extractLsb' 0 7 ++ BitVec.ofBool cy, a.msb)

/-- RAR: A shifted right with the old CY entering bit 7, and the bit moved out (R193). -/
def rar8 (a : Byte) (cy : Bool) : Byte × Bool :=
  (BitVec.ofBool cy ++ a.extractLsb' 1 7, a.getLsbD 0)

/-- `FlagByte`: S Z 0 AC 0 P 1 CY, bit 7 first (`10_state.md` R28). -/
def flagByte (f : Flags) : Byte :=
  BitVec.ofBool f.s ++ BitVec.ofBool f.z ++ 0#1 ++ BitVec.ofBool f.ac ++ 0#1 ++ BitVec.ofBool f.p ++
    1#1 ++ BitVec.ofBool f.cy

/-- The flags POP PSW takes from a byte; bits 5, 3 and 1 are ignored (`45_stack.md` R244). -/
def flagsOfByte (v : Byte) : Flags where
  s := v.getLsbD 7
  z := v.getLsbD 6
  ac := v.getLsbD 4
  p := v.getLsbD 2
  cy := v.getLsbD 0

/-- `cond(ccc)` (`44_branch.md` R200, `30_encoding.md` R94). -/
def condition (cc : Cond) (f : Flags) : Bool :=
  match cc with
  | .nz => !f.z
  | .z => f.z
  | .nc => !f.cy
  | .c => f.cy
  | .po => !f.p
  | .pe => f.p
  | .p => !f.s
  | .m => f.s

end Sys2Proof.Machine
end

