-- ==== Sys2Proof/Machine/Ops.lean ====
section
/-! DEFINITION. The named operations over memory, registers and the stack, how an instruction ends,
and the two ways control is taken from the program: interrupt acceptance (`60_exceptions.md` R276) and
the fault UnsupportedInstruction (R270), with the return (`45_stack.md` R240) beside them. -/

namespace Sys2Proof.Machine

/-! ### Memory (`20_memory.md` R51, R55, R56) -/

/-- The byte at an address; `Memory.unlisted` where there is no entry. -/
def Memory.read : Memory → Nat → Byte
  | [], _ => Memory.unlisted
  | (k, v) :: m, addr => if addr = k then v else if addr < k then Memory.unlisted else Memory.read m addr

/-- Put an entry, or take it out where the byte is `Memory.unlisted`, keeping the canonical form. -/
def Memory.write : Memory → Nat → Byte → Memory
  | [], addr, v => if v = Memory.unlisted then [] else [(addr, v)]
  | (k, w) :: m, addr, v =>
    if addr < k then (if v = Memory.unlisted then (k, w) :: m else (addr, v) :: (k, w) :: m)
    else if addr = k then (if v = Memory.unlisted then m else (addr, v) :: m)
    else (k, w) :: Memory.write m addr v

/-- The canonical form from address `low` on: strictly rising addresses below 65,536, no entry equal to
`Memory.unlisted`. -/
def Memory.wfFrom : Nat → Memory → Bool
  | _, [] => true
  | low, (k, v) :: m =>
    decide (low ≤ k) && decide (k < 65536) && decide (v ≠ Memory.unlisted) && Memory.wfFrom (k + 1) m

/-- The canonical form of memory. -/
def Memory.wf (m : Memory) : Bool := Memory.wfFrom 0 m

/-- `read_byte(addr)` (`20_memory.md` R55). -/
def State.readByte (s : State) (addr : Word) : Byte := Memory.read s.mem addr.toNat

/-- `write_byte(addr, byte)` under a configuration: with ROM_WRITE_PROTECT a write below ROM_SIZE is
dropped (`20_memory.md` R56). -/
def State.writeByteOn (cfg : Config) (s : State) (addr : Word) (v : Byte) : State :=
  if cfg.romWriteProtect && decide (addr.toNat < cfg.romSize) then s
  else { s with mem := Memory.write s.mem addr.toNat v }

/-- `write_byte(addr, byte)` of this hardware (`20_memory.md` R56). -/
def State.writeByte (s : State) (addr : Word) (v : Byte) : State :=
  State.writeByteOn Config.hardware s addr v

/-- `MemRead(addr, 2)`: the byte at the lower address is the less significant (`00_scope.md` R9,
`20_memory.md` R68). -/
def State.readWord (s : State) (addr : Word) : Word := pair (s.readByte (addr + 1)) (s.readByte addr)

/-- `MemWrite(addr, 2, v)`: the low byte first (`00_scope.md` R9, `20_memory.md` R68). -/
def State.writeWord (s : State) (addr v : Word) : State :=
  (s.writeByte addr (lo v)).writeByte (addr + 1) (hi v)

/-! ### Registers (`10_state.md` R20 to R23) -/

/-- Read a general register. -/
def State.reg (s : State) : Reg → Byte
  | .b => s.b | .c => s.c | .d => s.d | .e => s.e | .h => s.h | .l => s.l | .a => s.a

/-- Write a general register. -/
def State.setReg (s : State) (r : Reg) (v : Byte) : State :=
  match r with
  | .b => { s with b := v } | .c => { s with c := v } | .d => { s with d := v }
  | .e => { s with e := v } | .h => { s with h := v } | .l => { s with l := v }
  | .a => { s with a := v }

/-- `H ## L`. -/
def State.hl (s : State) : Word := pair s.h s.l

/-- `rp[pp]` (`10_state.md` R21, R23). -/
def State.rp (s : State) : Pair → Word
  | .bc => pair s.b s.c
  | .de => pair s.d s.e
  | .hl => pair s.h s.l
  | .sp => s.sp

/-- `rp[pp] <- v` (`10_state.md` R23). -/
def State.setRp (s : State) (p : Pair) (v : Word) : State :=
  match p with
  | .bc => { s with b := hi v, c := lo v }
  | .de => { s with d := hi v, e := lo v }
  | .hl => { s with h := hi v, l := lo v }
  | .sp => { s with sp := v }

/-- The 16-bit value PUSH pushes; for PSW it is `A ## FlagByte` (`10_state.md` R23, R28). -/
def State.stackPair (s : State) : StackPair → Word
  | .bc => pair s.b s.c
  | .de => pair s.d s.e
  | .hl => pair s.h s.l
  | .psw => pair s.a (flagByte s.flags)

/-- Write what POP popped; for PSW to A and the five flags (`45_stack.md` R243, R244). -/
def State.setStackPair (s : State) (p : StackPair) (v : Word) : State :=
  match p with
  | .bc => { s with b := hi v, c := lo v }
  | .de => { s with d := hi v, e := lo v }
  | .hl => { s with h := hi v, l := lo v }
  | .psw => { s with a := hi v, flags := flagsOfByte (lo v) }

/-- The pair LDAX and STAX address through (`10_state.md` R23). -/
def State.indexPair (s : State) : IndexPair → Word
  | .bc => pair s.b s.c
  | .de => pair s.d s.e

/-- Write the five flags. -/
def State.setFlags (s : State) (f : Flags) : State := { s with flags := f }

/-- Write CY alone. -/
def State.setCy (s : State) (cy : Bool) : State := { s with flags := { s.flags with cy := cy } }

/-! ### The stack (`45_stack.md` R240) -/

/-- `push16(v)`: the high byte at SP - 1 first, then the low byte at SP - 2; SP goes down by 2. -/
def State.push16 (s : State) (v : Word) : State :=
  let t := (s.writeByte (s.sp - 1) (hi v)).writeByte (s.sp - 2) (lo v)
  { t with sp := s.sp - 2 }

/-- The 16-bit value at the top of the stack, low byte at SP. -/
def State.top16 (s : State) : Word := s.readWord s.sp

/-- SP after `pop16()`; a pop erases nothing. -/
def State.dropTop (s : State) : State := { s with sp := s.sp + 2 }

/-! ### How an instruction ends (`10_state.md` R24, `60_exceptions.md` R283, R284) -/

/-- Go on after an instruction of `len` bytes that cost `cycles` cycles: PC wraps modulo 65,536, and the
count of the frame advances (log entry 5). -/
def State.retire (s : State) (len : Word) (cycles : Nat) : State :=
  { s with pc := s.pc + len, cyc := s.cyc + cycles }

/-- A control transfer that cost `cycles` cycles. -/
def State.jump (s : State) (target : Word) (cycles : Nat) : State :=
  { s with pc := target, cyc := s.cyc + cycles }

/-- Call: push the return address and transfer (`44_branch.md` R210, R231). -/
def State.call (s : State) (ret target : Word) (cycles : Nat) : State :=
  (s.push16 ret).jump target cycles

/-- Return: `pc <- pop16()` (`44_branch.md` R219); also the return from an interrupt handler
(`60_exceptions.md` R280), which restores PC and SP and nothing else. -/
def State.ret (s : State) (cycles : Nat) : State :=
  s.dropTop.jump s.top16 cycles

/-! ### Interrupts and the fault -/

/-- The address of restart `n`, `8 * n` (`60_exceptions.md` R277, `44_branch.md` R228). -/
def restartAddress (n : Fin 8) : Word := BitVec.ofNat 16 (8 * n.val)

/-- Accept interrupt `n`: leave halt, push PC, clear INTE, go to the restart address. Nothing else is
saved or changed (`60_exceptions.md` R276). -/
def State.acceptInterrupt (s : State) (n : Fin 8) : State :=
  { s.push16 s.pc with halted := false, inte := false, pc := restartAddress n }

/-- `interrupt(n)`: accepted when INTE = 1, otherwise nothing happens and nothing is remembered
(`60_exceptions.md` R275, R276). -/
def State.interrupt (s : State) (n : Fin 8) : State :=
  if s.inte then s.acceptInterrupt n else s

/-- Raise UnsupportedInstruction(opcode, pc): STATUS records the two and nothing else changes; PC stays
at the offending byte and no cycle is counted (`60_exceptions.md` R270). -/
def State.raiseUnsupported (s : State) (opcode : Byte) : State :=
  { s with status := .faulted opcode s.pc }

end Sys2Proof.Machine
end

