-- ==== Sys2Proof/Machine/Operands.lean ====
section
/-! DEFINITION. The operand M, the I/O ports and the shifter: what an instruction reads and writes besides
registers (`10_state.md` R22, `20_memory.md` R59 to R66). -/

namespace Sys2Proof.Machine

/-- The operand M read: the byte at `H ## L` (`10_state.md` R22). -/
def State.readM (s : State) : Byte := s.readByte s.hl

/-- The operand M written (`10_state.md` R22). -/
def State.writeM (s : State) (v : Byte) : State := s.writeByte s.hl v

/-- The shift result, `(SHIFT >> (8 - SHAMT))[7:0]` (`20_memory.md` R66). -/
def State.shiftResult (s : State) : Byte := (s.shift >>> (8 - s.shamt.toNat)).setWidth 8

/-- `read_port(n)` under a configuration (`20_memory.md` R60). It changes no state. -/
def State.readPortOn (cfg : Config) (s : State) (n : Byte) : Byte :=
  if n = cfg.inp1Port then s.inp1
  else if n = cfg.inp2Port then s.inp2
  else if n = cfg.shiftResultPort then s.shiftResult
  else 0x00

/-- `read_port(n)` of this hardware (`20_memory.md` R60). -/
def State.readPort (s : State) (n : Byte) : Byte := State.readPortOn Config.hardware s n

/-- A shift-amount write: the low three bits are kept (`20_memory.md` R65). -/
def State.writeShiftAmount (s : State) (v : Byte) : State := { s with shamt := v.setWidth 3 }

/-- A shift-data write: the old high byte moves down, the new byte becomes the high byte
(`20_memory.md` R64). -/
def State.writeShiftData (s : State) (v : Byte) : State := { s with shift := pair v (hi s.shift) }

/-- `write_port(n, byte)` under a configuration; every other port ignores the write
(`20_memory.md` R62, R63). -/
def State.writePortOn (cfg : Config) (s : State) (n v : Byte) : State :=
  if n = cfg.shiftAmountPort then s.writeShiftAmount v
  else if n = cfg.shiftDataPort then s.writeShiftData v
  else s

/-- `write_port(n, byte)` of this hardware (`20_memory.md` R62). -/
def State.writePort (s : State) (n v : Byte) : State := State.writePortOn Config.hardware s n v

end Sys2Proof.Machine
end

