-- ==== Sys2Proof/Machine/Arithmetic.lean ====
section
/-! DEFINITION. The arithmetic instructions (`41_arithmetic.md` R140 to R162), and the shared meaning of all eight
8-bit operations on A (`30_encoding.md` R99), which the logical family uses too. -/

namespace Sys2Proof.Machine

/-- An 8-bit operation on A and the value `v`, of an instruction of `len` bytes (R142 to R153,
`42_logical.md` R171 to R182). CY is read before it is written. -/
def aluWith (op : AluOp) (v : Byte) (len : Word) (cycles : Nat) (s : State) : Answer :=
  let out := alu op s.a v s.flags.cy
  .next (((s.setReg .a out.1).setFlags out.2).retire len cycles)

/-- With a register operand. -/
def aluReg (op : AluOp) (r : Reg) (s : State) : Answer :=
  aluWith op (s.reg r) 1 4 s

/-- With the operand M. -/
def aluM (op : AluOp) (s : State) : Answer :=
  aluWith op s.readM 1 7 s

/-- With an immediate operand. -/
def aluImm (op : AluOp) (d8 : Byte) (s : State) : Answer :=
  aluWith op d8 2 7 s

/-- `INR r` (R154). -/
def incReg (r : Reg) (s : State) : Answer :=
  let out := inr8 (s.reg r) s.flags
  .next (((s.setReg r out.1).setFlags out.2).retire 1 5)

/-- `INR M` (R155). -/
def incM (s : State) : Answer :=
  let out := inr8 s.readM s.flags
  .next (((s.writeM out.1).setFlags out.2).retire 1 10)

/-- `DCR r` (R156). -/
def decReg (r : Reg) (s : State) : Answer :=
  let out := dcr8 (s.reg r) s.flags
  .next (((s.setReg r out.1).setFlags out.2).retire 1 5)

/-- `DCR M` (R157). -/
def decM (s : State) : Answer :=
  let out := dcr8 s.readM s.flags
  .next (((s.writeM out.1).setFlags out.2).retire 1 10)

/-- `INX rp` (R158): no flag. -/
def incPair (p : Pair) (s : State) : Answer :=
  .next ((s.setRp p (s.rp p + 1)).retire 1 5)

/-- `DCX rp` (R159): no flag. -/
def decPair (p : Pair) (s : State) : Answer :=
  .next ((s.setRp p (s.rp p - 1)).retire 1 5)

/-- `DAD rp` (R160): CY only. -/
def addPairToHl (p : Pair) (s : State) : Answer :=
  let out := dad16 s.hl (s.rp p)
  .next (((s.setRp .hl out.1).setCy out.2).retire 1 10)

/-- `DAA` (R161). -/
def decimalAdjust (s : State) : Answer :=
  let out := daa8 s.a s.flags
  .next (((s.setReg .a out.1).setFlags out.2).retire 1 4)

/-- `ADD B`, 0x80. -/
def execAddB (s : State) : Answer := aluReg .add .b s
/-- `ADD C`, 0x81. -/
def execAddC (s : State) : Answer := aluReg .add .c s
/-- `ADD D`, 0x82. -/
def execAddD (s : State) : Answer := aluReg .add .d s
/-- `ADD E`, 0x83. -/
def execAddE (s : State) : Answer := aluReg .add .e s
/-- `ADD H`, 0x84. -/
def execAddH (s : State) : Answer := aluReg .add .h s
/-- `ADD L`, 0x85. -/
def execAddL (s : State) : Answer := aluReg .add .l s
/-- `ADD A`, 0x87. -/
def execAddA (s : State) : Answer := aluReg .add .a s
/-- `ADD M`, 0x86. -/
def execAddM (s : State) : Answer := aluM .add s
/-- `ADI d8`, 0xC6. -/
def execAdi (d8 : Byte) (s : State) : Answer := aluImm .add d8 s
/-- `ADC B`, 0x88. -/
def execAdcB (s : State) : Answer := aluReg .adc .b s
/-- `ADC C`, 0x89. -/
def execAdcC (s : State) : Answer := aluReg .adc .c s
/-- `ADC D`, 0x8A. -/
def execAdcD (s : State) : Answer := aluReg .adc .d s
/-- `ADC E`, 0x8B. -/
def execAdcE (s : State) : Answer := aluReg .adc .e s
/-- `ADC H`, 0x8C. -/
def execAdcH (s : State) : Answer := aluReg .adc .h s
/-- `ADC L`, 0x8D. -/
def execAdcL (s : State) : Answer := aluReg .adc .l s
/-- `ADC A`, 0x8F. -/
def execAdcA (s : State) : Answer := aluReg .adc .a s
/-- `ADC M`, 0x8E. -/
def execAdcM (s : State) : Answer := aluM .adc s
/-- `ACI d8`, 0xCE. -/
def execAci (d8 : Byte) (s : State) : Answer := aluImm .adc d8 s
/-- `SUB B`, 0x90. -/
def execSubB (s : State) : Answer := aluReg .sub .b s
/-- `SUB C`, 0x91. -/
def execSubC (s : State) : Answer := aluReg .sub .c s
/-- `SUB D`, 0x92. -/
def execSubD (s : State) : Answer := aluReg .sub .d s
/-- `SUB E`, 0x93. -/
def execSubE (s : State) : Answer := aluReg .sub .e s
/-- `SUB H`, 0x94. -/
def execSubH (s : State) : Answer := aluReg .sub .h s
/-- `SUB L`, 0x95. -/
def execSubL (s : State) : Answer := aluReg .sub .l s
/-- `SUB A`, 0x97. -/
def execSubA (s : State) : Answer := aluReg .sub .a s
/-- `SUB M`, 0x96. -/
def execSubM (s : State) : Answer := aluM .sub s
/-- `SUI d8`, 0xD6. -/
def execSui (d8 : Byte) (s : State) : Answer := aluImm .sub d8 s
/-- `SBB B`, 0x98. -/
def execSbbB (s : State) : Answer := aluReg .sbb .b s
/-- `SBB C`, 0x99. -/
def execSbbC (s : State) : Answer := aluReg .sbb .c s
/-- `SBB D`, 0x9A. -/
def execSbbD (s : State) : Answer := aluReg .sbb .d s
/-- `SBB E`, 0x9B. -/
def execSbbE (s : State) : Answer := aluReg .sbb .e s
/-- `SBB H`, 0x9C. -/
def execSbbH (s : State) : Answer := aluReg .sbb .h s
/-- `SBB L`, 0x9D. -/
def execSbbL (s : State) : Answer := aluReg .sbb .l s
/-- `SBB A`, 0x9F. -/
def execSbbA (s : State) : Answer := aluReg .sbb .a s
/-- `SBB M`, 0x9E. -/
def execSbbM (s : State) : Answer := aluM .sbb s
/-- `SBI d8`, 0xDE. -/
def execSbi (d8 : Byte) (s : State) : Answer := aluImm .sbb d8 s
/-- `INR B`, 0x04. -/
def execInrB (s : State) : Answer := incReg .b s
/-- `INR C`, 0x0C. -/
def execInrC (s : State) : Answer := incReg .c s
/-- `INR D`, 0x14. -/
def execInrD (s : State) : Answer := incReg .d s
/-- `INR E`, 0x1C. -/
def execInrE (s : State) : Answer := incReg .e s
/-- `INR H`, 0x24. -/
def execInrH (s : State) : Answer := incReg .h s
/-- `INR L`, 0x2C. -/
def execInrL (s : State) : Answer := incReg .l s
/-- `INR A`, 0x3C. -/
def execInrA (s : State) : Answer := incReg .a s
/-- `INR M`, 0x34. -/
def execInrM (s : State) : Answer := incM s
/-- `DCR B`, 0x05. -/
def execDcrB (s : State) : Answer := decReg .b s
/-- `DCR C`, 0x0D. -/
def execDcrC (s : State) : Answer := decReg .c s
/-- `DCR D`, 0x15. -/
def execDcrD (s : State) : Answer := decReg .d s
/-- `DCR E`, 0x1D. -/
def execDcrE (s : State) : Answer := decReg .e s
/-- `DCR H`, 0x25. -/
def execDcrH (s : State) : Answer := decReg .h s
/-- `DCR L`, 0x2D. -/
def execDcrL (s : State) : Answer := decReg .l s
/-- `DCR A`, 0x3D. -/
def execDcrA (s : State) : Answer := decReg .a s
/-- `DCR M`, 0x35. -/
def execDcrM (s : State) : Answer := decM s
/-- `INX B`, 0x03. -/
def execInxB (s : State) : Answer := incPair .bc s
/-- `INX D`, 0x13. -/
def execInxD (s : State) : Answer := incPair .de s
/-- `INX H`, 0x23. -/
def execInxH (s : State) : Answer := incPair .hl s
/-- `INX SP`, 0x33. -/
def execInxSp (s : State) : Answer := incPair .sp s
/-- `DCX B`, 0x0B. -/
def execDcxB (s : State) : Answer := decPair .bc s
/-- `DCX D`, 0x1B. -/
def execDcxD (s : State) : Answer := decPair .de s
/-- `DCX H`, 0x2B. -/
def execDcxH (s : State) : Answer := decPair .hl s
/-- `DCX SP`, 0x3B. -/
def execDcxSp (s : State) : Answer := decPair .sp s
/-- `DAD B`, 0x09. -/
def execDadB (s : State) : Answer := addPairToHl .bc s
/-- `DAD D`, 0x19. -/
def execDadD (s : State) : Answer := addPairToHl .de s
/-- `DAD H`, 0x29. -/
def execDadH (s : State) : Answer := addPairToHl .hl s
/-- `DAD SP`, 0x39. -/
def execDadSp (s : State) : Answer := addPairToHl .sp s
/-- `DAA`, 0x27. -/
def execDaa (s : State) : Answer := decimalAdjust s

end Sys2Proof.Machine
end

