-- ==== Sys2Proof/Machine/Logical.lean ====
section
/-! DEFINITION. The logical, compare and flag instructions (`42_logical.md` R170 to R185). -/

namespace Sys2Proof.Machine

/-- `CMA` (R183): no flag. -/
def complementA (s : State) : Answer :=
  .next ((s.setReg .a (~~~s.a)).retire 1 4)

/-- `CMC` (R184). -/
def complementCy (s : State) : Answer :=
  .next ((s.setCy (!s.flags.cy)).retire 1 4)

/-- `STC` (R185). -/
def assertCy (s : State) : Answer :=
  .next ((s.setCy true).retire 1 4)

/-- `ANA B`, 0xA0. -/
def execAnaB (s : State) : Answer := aluReg .ana .b s
/-- `ANA C`, 0xA1. -/
def execAnaC (s : State) : Answer := aluReg .ana .c s
/-- `ANA D`, 0xA2. -/
def execAnaD (s : State) : Answer := aluReg .ana .d s
/-- `ANA E`, 0xA3. -/
def execAnaE (s : State) : Answer := aluReg .ana .e s
/-- `ANA H`, 0xA4. -/
def execAnaH (s : State) : Answer := aluReg .ana .h s
/-- `ANA L`, 0xA5. -/
def execAnaL (s : State) : Answer := aluReg .ana .l s
/-- `ANA A`, 0xA7. -/
def execAnaA (s : State) : Answer := aluReg .ana .a s
/-- `ANA M`, 0xA6. -/
def execAnaM (s : State) : Answer := aluM .ana s
/-- `ANI d8`, 0xE6. -/
def execAni (d8 : Byte) (s : State) : Answer := aluImm .ana d8 s
/-- `XRA B`, 0xA8. -/
def execXraB (s : State) : Answer := aluReg .xra .b s
/-- `XRA C`, 0xA9. -/
def execXraC (s : State) : Answer := aluReg .xra .c s
/-- `XRA D`, 0xAA. -/
def execXraD (s : State) : Answer := aluReg .xra .d s
/-- `XRA E`, 0xAB. -/
def execXraE (s : State) : Answer := aluReg .xra .e s
/-- `XRA H`, 0xAC. -/
def execXraH (s : State) : Answer := aluReg .xra .h s
/-- `XRA L`, 0xAD. -/
def execXraL (s : State) : Answer := aluReg .xra .l s
/-- `XRA A`, 0xAF. -/
def execXraA (s : State) : Answer := aluReg .xra .a s
/-- `XRA M`, 0xAE. -/
def execXraM (s : State) : Answer := aluM .xra s
/-- `XRI d8`, 0xEE. -/
def execXri (d8 : Byte) (s : State) : Answer := aluImm .xra d8 s
/-- `ORA B`, 0xB0. -/
def execOraB (s : State) : Answer := aluReg .ora .b s
/-- `ORA C`, 0xB1. -/
def execOraC (s : State) : Answer := aluReg .ora .c s
/-- `ORA D`, 0xB2. -/
def execOraD (s : State) : Answer := aluReg .ora .d s
/-- `ORA E`, 0xB3. -/
def execOraE (s : State) : Answer := aluReg .ora .e s
/-- `ORA H`, 0xB4. -/
def execOraH (s : State) : Answer := aluReg .ora .h s
/-- `ORA L`, 0xB5. -/
def execOraL (s : State) : Answer := aluReg .ora .l s
/-- `ORA A`, 0xB7. -/
def execOraA (s : State) : Answer := aluReg .ora .a s
/-- `ORA M`, 0xB6. -/
def execOraM (s : State) : Answer := aluM .ora s
/-- `ORI d8`, 0xF6. -/
def execOri (d8 : Byte) (s : State) : Answer := aluImm .ora d8 s
/-- `CMP B`, 0xB8. -/
def execCmpB (s : State) : Answer := aluReg .cmp .b s
/-- `CMP C`, 0xB9. -/
def execCmpC (s : State) : Answer := aluReg .cmp .c s
/-- `CMP D`, 0xBA. -/
def execCmpD (s : State) : Answer := aluReg .cmp .d s
/-- `CMP E`, 0xBB. -/
def execCmpE (s : State) : Answer := aluReg .cmp .e s
/-- `CMP H`, 0xBC. -/
def execCmpH (s : State) : Answer := aluReg .cmp .h s
/-- `CMP L`, 0xBD. -/
def execCmpL (s : State) : Answer := aluReg .cmp .l s
/-- `CMP A`, 0xBF. -/
def execCmpA (s : State) : Answer := aluReg .cmp .a s
/-- `CMP M`, 0xBE. -/
def execCmpM (s : State) : Answer := aluM .cmp s
/-- `CPI d8`, 0xFE. -/
def execCpi (d8 : Byte) (s : State) : Answer := aluImm .cmp d8 s
/-- `CMA`, 0x2F. -/
def execCma (s : State) : Answer := complementA s
/-- `CMC`, 0x3F. -/
def execCmc (s : State) : Answer := complementCy s
/-- `STC`, 0x37. -/
def execStc (s : State) : Answer := assertCy s

end Sys2Proof.Machine
end

