-- ==== Sys2Proof/Machine/Rotate.lean ====
section
/-! DEFINITION. The rotate instructions (`43_rotate.md` R190 to R193): A and CY, no other flag. -/

namespace Sys2Proof.Machine

/-- Write the rotated A and the bit moved out. -/
def rotateTo (out : Byte × Bool) (s : State) : Answer :=
  .next (((s.setReg .a out.1).setCy out.2).retire 1 4)

/-- `RLC`, 0x07. -/
def execRlc (s : State) : Answer := rotateTo (rlc8 s.a) s
/-- `RRC`, 0x0F. -/
def execRrc (s : State) : Answer := rotateTo (rrc8 s.a) s
/-- `RAL`, 0x17. -/
def execRal (s : State) : Answer := rotateTo (ral8 s.a s.flags.cy) s
/-- `RAR`, 0x1F. -/
def execRar (s : State) : Answer := rotateTo (rar8 s.a s.flags.cy) s

end Sys2Proof.Machine
end

