-- ==== Sys2Proof/Machine/Stack.lean ====
section
/-! DEFINITION. The stack instructions (`45_stack.md` R240 to R246). Only POP PSW writes flags. -/

namespace Sys2Proof.Machine

/-- `PUSH rp` and `PUSH PSW` (R241, R242). -/
def pushPair (p : StackPair) (s : State) : Answer :=
  .next ((s.push16 (s.stackPair p)).retire 1 11)

/-- `POP rp` and `POP PSW` (R243, R244). -/
def popPair (p : StackPair) (s : State) : Answer :=
  .next ((s.dropTop.setStackPair p s.top16).retire 1 10)

/-- `XTHL` (R245): both bytes are read, then H goes to SP + 1 and L to SP. -/
def exchangeTopHl (s : State) : Answer :=
  .next ((((s.writeByte (s.sp + 1) s.h).writeByte s.sp s.l).setRp .hl s.top16).retire 1 18)

/-- `SPHL` (R246). -/
def loadSpHl (s : State) : Answer :=
  .next ((s.setRp .sp s.hl).retire 1 5)

/-- `PUSH B`, 0xC5. -/
def execPushB (s : State) : Answer := pushPair .bc s
/-- `PUSH D`, 0xD5. -/
def execPushD (s : State) : Answer := pushPair .de s
/-- `PUSH H`, 0xE5. -/
def execPushH (s : State) : Answer := pushPair .hl s
/-- `PUSH PSW`, 0xF5. -/
def execPushPsw (s : State) : Answer := pushPair .psw s
/-- `POP B`, 0xC1. -/
def execPopB (s : State) : Answer := popPair .bc s
/-- `POP D`, 0xD1. -/
def execPopD (s : State) : Answer := popPair .de s
/-- `POP H`, 0xE1. -/
def execPopH (s : State) : Answer := popPair .hl s
/-- `POP PSW`, 0xF1. -/
def execPopPsw (s : State) : Answer := popPair .psw s
/-- `XTHL`, 0xE3. -/
def execXthl (s : State) : Answer := exchangeTopHl s
/-- `SPHL`, 0xF9. -/
def execSphl (s : State) : Answer := loadSpHl s

end Sys2Proof.Machine
end

