-- ==== Sys2Proof/Machine/Transfer.lean ====
section
/-! DEFINITION. The data transfer instructions (`40_data_transfer.md` R120 to R132): the shared meanings, then one
definition per instruction. None writes a flag. -/

namespace Sys2Proof.Machine

/-- `MOV r1,r2` (R120). -/
def moveReg (r1 r2 : Reg) (s : State) : Answer :=
  .next ((s.setReg r1 (s.reg r2)).retire 1 5)

/-- `MOV r,M` (R121): the address is formed before the register is written. -/
def loadRegM (r : Reg) (s : State) : Answer :=
  .next ((s.setReg r s.readM).retire 1 7)

/-- `MOV M,r` (R122). -/
def storeRegM (r : Reg) (s : State) : Answer :=
  .next ((s.writeM (s.reg r)).retire 1 7)

/-- `MVI r,d8` (R123). -/
def moveImm (r : Reg) (d8 : Byte) (s : State) : Answer :=
  .next ((s.setReg r d8).retire 2 7)

/-- `MVI M,d8` (R124). -/
def moveImmM (d8 : Byte) (s : State) : Answer :=
  .next ((s.writeM d8).retire 2 10)

/-- `LXI rp,d16` (R125). -/
def loadPairImm (p : Pair) (d16 : Word) (s : State) : Answer :=
  .next ((s.setRp p d16).retire 3 10)

/-- `LDA a16` (R126). -/
def loadDirect (a16 : Word) (s : State) : Answer :=
  .next ((s.setReg .a (s.readByte a16)).retire 3 13)

/-- `STA a16` (R127). -/
def storeDirect (a16 : Word) (s : State) : Answer :=
  .next ((s.writeByte a16 s.a).retire 3 13)

/-- `LHLD a16` (R128): L from `a16`, H from `a16 + 1`. -/
def loadHlDirect (a16 : Word) (s : State) : Answer :=
  .next ((s.setRp .hl (s.readWord a16)).retire 3 16)

/-- `SHLD a16` (R129): L to `a16`, then H to `a16 + 1`. -/
def storeHlDirect (a16 : Word) (s : State) : Answer :=
  .next ((s.writeWord a16 s.hl).retire 3 16)

/-- `LDAX rp` (R130). -/
def loadIndexed (p : IndexPair) (s : State) : Answer :=
  .next ((s.setReg .a (s.readByte (s.indexPair p))).retire 1 7)

/-- `STAX rp` (R131). -/
def storeIndexed (p : IndexPair) (s : State) : Answer :=
  .next ((s.writeByte (s.indexPair p) s.a).retire 1 7)

/-- `XCHG` (R132). -/
def exchangeHlDe (s : State) : Answer :=
  .next (((s.setRp .hl (s.rp .de)).setRp .de s.hl).retire 1 4)

/-- `MOV B,B`, 0x40. -/
def execMovBB (s : State) : Answer := moveReg .b .b s
/-- `MOV B,C`, 0x41. -/
def execMovBC (s : State) : Answer := moveReg .b .c s
/-- `MOV B,D`, 0x42. -/
def execMovBD (s : State) : Answer := moveReg .b .d s
/-- `MOV B,E`, 0x43. -/
def execMovBE (s : State) : Answer := moveReg .b .e s
/-- `MOV B,H`, 0x44. -/
def execMovBH (s : State) : Answer := moveReg .b .h s
/-- `MOV B,L`, 0x45. -/
def execMovBL (s : State) : Answer := moveReg .b .l s
/-- `MOV B,A`, 0x47. -/
def execMovBA (s : State) : Answer := moveReg .b .a s
/-- `MOV C,B`, 0x48. -/
def execMovCB (s : State) : Answer := moveReg .c .b s
/-- `MOV C,C`, 0x49. -/
def execMovCC (s : State) : Answer := moveReg .c .c s
/-- `MOV C,D`, 0x4A. -/
def execMovCD (s : State) : Answer := moveReg .c .d s
/-- `MOV C,E`, 0x4B. -/
def execMovCE (s : State) : Answer := moveReg .c .e s
/-- `MOV C,H`, 0x4C. -/
def execMovCH (s : State) : Answer := moveReg .c .h s
/-- `MOV C,L`, 0x4D. -/
def execMovCL (s : State) : Answer := moveReg .c .l s
/-- `MOV C,A`, 0x4F. -/
def execMovCA (s : State) : Answer := moveReg .c .a s
/-- `MOV D,B`, 0x50. -/
def execMovDB (s : State) : Answer := moveReg .d .b s
/-- `MOV D,C`, 0x51. -/
def execMovDC (s : State) : Answer := moveReg .d .c s
/-- `MOV D,D`, 0x52. -/
def execMovDD (s : State) : Answer := moveReg .d .d s
/-- `MOV D,E`, 0x53. -/
def execMovDE (s : State) : Answer := moveReg .d .e s
/-- `MOV D,H`, 0x54. -/
def execMovDH (s : State) : Answer := moveReg .d .h s
/-- `MOV D,L`, 0x55. -/
def execMovDL (s : State) : Answer := moveReg .d .l s
/-- `MOV D,A`, 0x57. -/
def execMovDA (s : State) : Answer := moveReg .d .a s
/-- `MOV E,B`, 0x58. -/
def execMovEB (s : State) : Answer := moveReg .e .b s
/-- `MOV E,C`, 0x59. -/
def execMovEC (s : State) : Answer := moveReg .e .c s
/-- `MOV E,D`, 0x5A. -/
def execMovED (s : State) : Answer := moveReg .e .d s
/-- `MOV E,E`, 0x5B. -/
def execMovEE (s : State) : Answer := moveReg .e .e s
/-- `MOV E,H`, 0x5C. -/
def execMovEH (s : State) : Answer := moveReg .e .h s
/-- `MOV E,L`, 0x5D. -/
def execMovEL (s : State) : Answer := moveReg .e .l s
/-- `MOV E,A`, 0x5F. -/
def execMovEA (s : State) : Answer := moveReg .e .a s
/-- `MOV H,B`, 0x60. -/
def execMovHB (s : State) : Answer := moveReg .h .b s
/-- `MOV H,C`, 0x61. -/
def execMovHC (s : State) : Answer := moveReg .h .c s
/-- `MOV H,D`, 0x62. -/
def execMovHD (s : State) : Answer := moveReg .h .d s
/-- `MOV H,E`, 0x63. -/
def execMovHE (s : State) : Answer := moveReg .h .e s
/-- `MOV H,H`, 0x64. -/
def execMovHH (s : State) : Answer := moveReg .h .h s
/-- `MOV H,L`, 0x65. -/
def execMovHL (s : State) : Answer := moveReg .h .l s
/-- `MOV H,A`, 0x67. -/
def execMovHA (s : State) : Answer := moveReg .h .a s
/-- `MOV L,B`, 0x68. -/
def execMovLB (s : State) : Answer := moveReg .l .b s
/-- `MOV L,C`, 0x69. -/
def execMovLC (s : State) : Answer := moveReg .l .c s
/-- `MOV L,D`, 0x6A. -/
def execMovLD (s : State) : Answer := moveReg .l .d s
/-- `MOV L,E`, 0x6B. -/
def execMovLE (s : State) : Answer := moveReg .l .e s
/-- `MOV L,H`, 0x6C. -/
def execMovLH (s : State) : Answer := moveReg .l .h s
/-- `MOV L,L`, 0x6D. -/
def execMovLL (s : State) : Answer := moveReg .l .l s
/-- `MOV L,A`, 0x6F. -/
def execMovLA (s : State) : Answer := moveReg .l .a s
/-- `MOV A,B`, 0x78. -/
def execMovAB (s : State) : Answer := moveReg .a .b s
/-- `MOV A,C`, 0x79. -/
def execMovAC (s : State) : Answer := moveReg .a .c s
/-- `MOV A,D`, 0x7A. -/
def execMovAD (s : State) : Answer := moveReg .a .d s
/-- `MOV A,E`, 0x7B. -/
def execMovAE (s : State) : Answer := moveReg .a .e s
/-- `MOV A,H`, 0x7C. -/
def execMovAH (s : State) : Answer := moveReg .a .h s
/-- `MOV A,L`, 0x7D. -/
def execMovAL (s : State) : Answer := moveReg .a .l s
/-- `MOV A,A`, 0x7F. -/
def execMovAA (s : State) : Answer := moveReg .a .a s
/-- `MOV B,M`, 0x46. -/
def execMovBM (s : State) : Answer := loadRegM .b s
/-- `MOV C,M`, 0x4E. -/
def execMovCM (s : State) : Answer := loadRegM .c s
/-- `MOV D,M`, 0x56. -/
def execMovDM (s : State) : Answer := loadRegM .d s
/-- `MOV E,M`, 0x5E. -/
def execMovEM (s : State) : Answer := loadRegM .e s
/-- `MOV H,M`, 0x66. -/
def execMovHM (s : State) : Answer := loadRegM .h s
/-- `MOV L,M`, 0x6E. -/
def execMovLM (s : State) : Answer := loadRegM .l s
/-- `MOV A,M`, 0x7E. -/
def execMovAM (s : State) : Answer := loadRegM .a s
/-- `MOV M,B`, 0x70. -/
def execMovMB (s : State) : Answer := storeRegM .b s
/-- `MOV M,C`, 0x71. -/
def execMovMC (s : State) : Answer := storeRegM .c s
/-- `MOV M,D`, 0x72. -/
def execMovMD (s : State) : Answer := storeRegM .d s
/-- `MOV M,E`, 0x73. -/
def execMovME (s : State) : Answer := storeRegM .e s
/-- `MOV M,H`, 0x74. -/
def execMovMH (s : State) : Answer := storeRegM .h s
/-- `MOV M,L`, 0x75. -/
def execMovML (s : State) : Answer := storeRegM .l s
/-- `MOV M,A`, 0x77. -/
def execMovMA (s : State) : Answer := storeRegM .a s
/-- `MVI B,d8`, 0x06. -/
def execMviB (d8 : Byte) (s : State) : Answer := moveImm .b d8 s
/-- `MVI C,d8`, 0x0E. -/
def execMviC (d8 : Byte) (s : State) : Answer := moveImm .c d8 s
/-- `MVI D,d8`, 0x16. -/
def execMviD (d8 : Byte) (s : State) : Answer := moveImm .d d8 s
/-- `MVI E,d8`, 0x1E. -/
def execMviE (d8 : Byte) (s : State) : Answer := moveImm .e d8 s
/-- `MVI H,d8`, 0x26. -/
def execMviH (d8 : Byte) (s : State) : Answer := moveImm .h d8 s
/-- `MVI L,d8`, 0x2E. -/
def execMviL (d8 : Byte) (s : State) : Answer := moveImm .l d8 s
/-- `MVI A,d8`, 0x3E. -/
def execMviA (d8 : Byte) (s : State) : Answer := moveImm .a d8 s
/-- `MVI M,d8`, 0x36. -/
def execMviM (d8 : Byte) (s : State) : Answer := moveImmM d8 s
/-- `LXI B,d16`, 0x01. -/
def execLxiB (d16 : Word) (s : State) : Answer := loadPairImm .bc d16 s
/-- `LXI D,d16`, 0x11. -/
def execLxiD (d16 : Word) (s : State) : Answer := loadPairImm .de d16 s
/-- `LXI H,d16`, 0x21. -/
def execLxiH (d16 : Word) (s : State) : Answer := loadPairImm .hl d16 s
/-- `LXI SP,d16`, 0x31. -/
def execLxiSp (d16 : Word) (s : State) : Answer := loadPairImm .sp d16 s
/-- `LDA a16`, 0x3A. -/
def execLda (a16 : Word) (s : State) : Answer := loadDirect a16 s
/-- `STA a16`, 0x32. -/
def execSta (a16 : Word) (s : State) : Answer := storeDirect a16 s
/-- `LHLD a16`, 0x2A. -/
def execLhld (a16 : Word) (s : State) : Answer := loadHlDirect a16 s
/-- `SHLD a16`, 0x22. -/
def execShld (a16 : Word) (s : State) : Answer := storeHlDirect a16 s
/-- `LDAX B`, 0x0A. -/
def execLdaxB (s : State) : Answer := loadIndexed .bc s
/-- `LDAX D`, 0x1A. -/
def execLdaxD (s : State) : Answer := loadIndexed .de s
/-- `STAX B`, 0x02. -/
def execStaxB (s : State) : Answer := storeIndexed .bc s
/-- `STAX D`, 0x12. -/
def execStaxD (s : State) : Answer := storeIndexed .de s
/-- `XCHG`, 0xEB. -/
def execXchg (s : State) : Answer := exchangeHlDe s

end Sys2Proof.Machine
end

