-- ==== Sys2Proof/Machine/Branch.lean ====
section
/-! DEFINITION. The control transfer instructions (`44_branch.md` R200 to R231). None writes a flag. -/

namespace Sys2Proof.Machine

/-- `JMP a16` (R201). -/
def jumpTo (a16 : Word) (s : State) : Answer :=
  .next (s.jump a16 10)

/-- A conditional jump (R202 to R209): 10 cycles, taken or not. -/
def jumpIf (cc : Cond) (a16 : Word) (s : State) : Answer :=
  if condition cc s.flags then .next (s.jump a16 10) else .next (s.retire 3 10)

/-- `CALL a16` (R210). -/
def callTo (a16 : Word) (s : State) : Answer :=
  .next (s.call (s.pc + 3) a16 17)

/-- A conditional call (R211 to R218): 17 cycles taken, 11 not. -/
def callIf (cc : Cond) (a16 : Word) (s : State) : Answer :=
  if condition cc s.flags then .next (s.call (s.pc + 3) a16 17) else .next (s.retire 3 11)

/-- `RET` (R219). -/
def returnNow (s : State) : Answer :=
  .next (s.ret 10)

/-- A conditional return (R220 to R227): 11 cycles taken, 5 not. -/
def returnIf (cc : Cond) (s : State) : Answer :=
  if condition cc s.flags then .next (s.ret 11) else .next (s.retire 1 5)

/-- `RST n` (R228): an ordinary call; INTE is neither read nor written. -/
def restart (n : Fin 8) (s : State) : Answer :=
  .next (s.call (s.pc + 1) (restartAddress n) 11)

/-- `PCHL` (R229). -/
def jumpHl (s : State) : Answer :=
  .next (s.jump s.hl 5)

/-- `JMP a16`, 0xC3. -/
def execJmp (a16 : Word) (s : State) : Answer := jumpTo a16 s
/-- `JNZ a16`, 0xC2. -/
def execJnz (a16 : Word) (s : State) : Answer := jumpIf .nz a16 s
/-- `JZ a16`, 0xCA. -/
def execJz (a16 : Word) (s : State) : Answer := jumpIf .z a16 s
/-- `JNC a16`, 0xD2. -/
def execJnc (a16 : Word) (s : State) : Answer := jumpIf .nc a16 s
/-- `JC a16`, 0xDA. -/
def execJc (a16 : Word) (s : State) : Answer := jumpIf .c a16 s
/-- `JPO a16`, 0xE2. -/
def execJpo (a16 : Word) (s : State) : Answer := jumpIf .po a16 s
/-- `JPE a16`, 0xEA. -/
def execJpe (a16 : Word) (s : State) : Answer := jumpIf .pe a16 s
/-- `JP a16`, 0xF2. -/
def execJp (a16 : Word) (s : State) : Answer := jumpIf .p a16 s
/-- `JM a16`, 0xFA. -/
def execJm (a16 : Word) (s : State) : Answer := jumpIf .m a16 s
/-- `CALL a16`, 0xCD. -/
def execCall (a16 : Word) (s : State) : Answer := callTo a16 s
/-- `CNZ a16`, 0xC4. -/
def execCnz (a16 : Word) (s : State) : Answer := callIf .nz a16 s
/-- `CZ a16`, 0xCC. -/
def execCz (a16 : Word) (s : State) : Answer := callIf .z a16 s
/-- `CNC a16`, 0xD4. -/
def execCnc (a16 : Word) (s : State) : Answer := callIf .nc a16 s
/-- `CC a16`, 0xDC. -/
def execCc (a16 : Word) (s : State) : Answer := callIf .c a16 s
/-- `CPO a16`, 0xE4. -/
def execCpo (a16 : Word) (s : State) : Answer := callIf .po a16 s
/-- `CPE a16`, 0xEC. -/
def execCpe (a16 : Word) (s : State) : Answer := callIf .pe a16 s
/-- `CP a16`, 0xF4. -/
def execCp (a16 : Word) (s : State) : Answer := callIf .p a16 s
/-- `CM a16`, 0xFC. -/
def execCm (a16 : Word) (s : State) : Answer := callIf .m a16 s
/-- `RET`, 0xC9. -/
def execRet (s : State) : Answer := returnNow s
/-- `RNZ`, 0xC0. -/
def execRnz (s : State) : Answer := returnIf .nz s
/-- `RZ`, 0xC8. -/
def execRz (s : State) : Answer := returnIf .z s
/-- `RNC`, 0xD0. -/
def execRnc (s : State) : Answer := returnIf .nc s
/-- `RC`, 0xD8. -/
def execRc (s : State) : Answer := returnIf .c s
/-- `RPO`, 0xE0. -/
def execRpo (s : State) : Answer := returnIf .po s
/-- `RPE`, 0xE8. -/
def execRpe (s : State) : Answer := returnIf .pe s
/-- `RP`, 0xF0. -/
def execRp (s : State) : Answer := returnIf .p s
/-- `RM`, 0xF8. -/
def execRm (s : State) : Answer := returnIf .m s
/-- `RST 0`, 0xC7. -/
def execRst0 (s : State) : Answer := restart 0 s
/-- `RST 1`, 0xCF. -/
def execRst1 (s : State) : Answer := restart 1 s
/-- `RST 2`, 0xD7. -/
def execRst2 (s : State) : Answer := restart 2 s
/-- `RST 3`, 0xDF. -/
def execRst3 (s : State) : Answer := restart 3 s
/-- `RST 4`, 0xE7. -/
def execRst4 (s : State) : Answer := restart 4 s
/-- `RST 5`, 0xEF. -/
def execRst5 (s : State) : Answer := restart 5 s
/-- `RST 6`, 0xF7. -/
def execRst6 (s : State) : Answer := restart 6 s
/-- `RST 7`, 0xFF. -/
def execRst7 (s : State) : Answer := restart 7 s
/-- `PCHL`, 0xE9. -/
def execPchl (s : State) : Answer := jumpHl s

end Sys2Proof.Machine
end

