-- ==== Sys2Proof/Machine/Control.lean ====
section
/-! DEFINITION. The input/output and machine control instructions (`46_io_control.md` R255 to R261). None writes a
flag. -/

namespace Sys2Proof.Machine

/-- `IN d8` (R255). -/
def input (port : Byte) (s : State) : Answer :=
  .next ((s.setReg .a (s.readPort port)).retire 2 10)

/-- `OUT d8` (R256). -/
def output (port : Byte) (s : State) : Answer :=
  .next ((s.writePort port s.a).retire 2 10)

/-- `EI` (R257): INTE is 1 at once (EI_DELAY = 0). -/
def enableInterrupts (s : State) : Answer :=
  .next (State.retire { s with inte := true } 1 4)

/-- `DI` (R258). -/
def disableInterrupts (s : State) : Answer :=
  .next (State.retire { s with inte := false } 1 4)

/-- `HLT` (R259): PC is past the HLT before the CPU stops. -/
def halt (s : State) : Answer :=
  .next (State.retire { s with halted := true } 1 7)

/-- `NOP` (R260). -/
def noOperation (s : State) : Answer :=
  .next (s.retire 1 4)

/-- `IN port`, 0xDB. -/
def execInPort (port : Byte) (s : State) : Answer := input port s
/-- `OUT port`, 0xD3. -/
def execOutPort (port : Byte) (s : State) : Answer := output port s
/-- `EI`, 0xFB. -/
def execEi (s : State) : Answer := enableInterrupts s
/-- `DI`, 0xF3. -/
def execDi (s : State) : Answer := disableInterrupts s
/-- `HLT`, 0x76. -/
def execHlt (s : State) : Answer := halt s
/-- `NOP`, 0x00. -/
def execNop (s : State) : Answer := noOperation s

end Sys2Proof.Machine
end

