-- ==== Sys2Proof/Machine/Undocumented.lean ====
section
/-! DEFINITION. The 12 undocumented first bytes (`30_encoding.md` R101, `60_exceptions.md` R270). With UNDOC_POLICY =
fault, the value of this hardware, each raises UnsupportedInstruction; with the other policy each acts
as the documented instruction the silicon runs for it. -/

namespace Sys2Proof.Machine

/-- The silicon's JMP: the operand bytes follow the first byte in memory (R101, R105). -/
def siliconJump (s : State) : Answer :=
  jumpTo (s.readWord (s.pc + 1)) s

/-- The silicon's CALL. -/
def siliconCall (s : State) : Answer :=
  callTo (s.readWord (s.pc + 1)) s

/-- What the silicon does with an undocumented first byte: 0xCB is JMP, 0xD9 is RET, 0xDD, 0xED and 0xFD
are CALL, the other seven are NOP (R101). -/
def silicon (opcode : Byte) (s : State) : Answer :=
  if opcode = 0xCB then siliconJump s
  else if opcode = 0xD9 then returnNow s
  else if opcode = 0xDD ∨ opcode = 0xED ∨ opcode = 0xFD then siliconCall s
  else noOperation s

/-- An undocumented first byte under a configuration (R101). -/
def undocumentedOn (cfg : Config) (opcode : Byte) (s : State) : Answer :=
  match cfg.undocPolicy with
  | .faults => .next (s.raiseUnsupported opcode)
  | .aliases => silicon opcode s

/-- Undocumented 0x08. -/
def execUndoc08 (s : State) : Answer := undocumentedOn Config.hardware 0x08 s
/-- Undocumented 0x10. -/
def execUndoc10 (s : State) : Answer := undocumentedOn Config.hardware 0x10 s
/-- Undocumented 0x18. -/
def execUndoc18 (s : State) : Answer := undocumentedOn Config.hardware 0x18 s
/-- Undocumented 0x20. -/
def execUndoc20 (s : State) : Answer := undocumentedOn Config.hardware 0x20 s
/-- Undocumented 0x28. -/
def execUndoc28 (s : State) : Answer := undocumentedOn Config.hardware 0x28 s
/-- Undocumented 0x30. -/
def execUndoc30 (s : State) : Answer := undocumentedOn Config.hardware 0x30 s
/-- Undocumented 0x38. -/
def execUndoc38 (s : State) : Answer := undocumentedOn Config.hardware 0x38 s
/-- Undocumented 0xCB. -/
def execUndocCB (s : State) : Answer := undocumentedOn Config.hardware 0xCB s
/-- Undocumented 0xD9. -/
def execUndocD9 (s : State) : Answer := undocumentedOn Config.hardware 0xD9 s
/-- Undocumented 0xDD. -/
def execUndocDD (s : State) : Answer := undocumentedOn Config.hardware 0xDD s
/-- Undocumented 0xED. -/
def execUndocED (s : State) : Answer := undocumentedOn Config.hardware 0xED s
/-- Undocumented 0xFD. -/
def execUndocFD (s : State) : Answer := undocumentedOn Config.hardware 0xFD s

end Sys2Proof.Machine
end

