-- ==== Sys2Proof/Machine/Scheduler.lean ====
section
/-! DEFINITION. Fetching an instruction (`30_encoding.md` R105), the CPU's step `execute_one`
(`60_exceptions.md` R283), and one step of the frame scheduler (R284). -/

namespace Sys2Proof.Machine

/-- The instruction at PC. Its first byte decides how many bytes are read, at `pc`, `pc + 1` and
`pc + 2` modulo 65,536 (`30_encoding.md` R105). -/
def State.fetch (s : State) : Instr :=
  let op := s.readByte s.pc
  let n := opcodeLength op
  decodeOp op (if n = 1 then 0 else s.readByte (s.pc + 1)) (if n = 3 then s.readByte (s.pc + 2) else 0)

/-- `execute_one()`: no step when faulted, an idle step when halted, otherwise the instruction at PC.
The cycles it returns are what it adds to `cyc` (`60_exceptions.md` R283, R271). -/
def executeOne (s : State) : Answer :=
  match s.status with
  | .faulted opcode pc => .fault (.faulted opcode pc)
  | .running =>
    if s.halted then .next { s with cyc := s.cyc + Config.hardware.haltIdleCycles }
    else exec s.fetch s

/-- Offer interrupt `n` at a threshold; an accepted one adds INT_ACK_CYCLES (`60_exceptions.md` R275,
R276, R284). -/
def State.offerInterrupt (cfg : Config) (s : State) (n : Fin 8) : State :=
  if s.inte then { s.interrupt n with cyc := s.cyc + cfg.intAckCycles } else s

/-- The start of a frame that is not frozen: the count begins at 0 (`60_exceptions.md` R284). -/
def State.startFrame (s : State) : State := { s with cyc := 0, phase := .firstHalf }

/-- A call of `run_one_frame` would return 0 at once (`60_exceptions.md` R286). -/
def State.frozen (cfg : Config) (s : State) : Bool := cfg.pauseFreezes && s.paused

/-- One turn of the first loop, or the offer of vector 1 when its test fails (`60_exceptions.md` R284). -/
def firstHalfTurn (cfg : Config) (s : State) : Answer :=
  if s.cyc < cfg.halfFrameCycles then executeOne s
  else .next { s.offerInterrupt cfg 1 with phase := .secondHalf }

/-- One turn of the second loop, or the offer of vector 2 and the return when its test fails
(`60_exceptions.md` R284). -/
def secondHalfTurn (cfg : Config) (s : State) : Answer :=
  if s.cyc < cfg.frameCycles then executeOne s
  else .next { s.offerInterrupt cfg 2 with phase := .betweenFrames }

/-- One step of the scheduler: one `execute_one` call, one interrupt offer, or one call of
`run_one_frame` that returns 0 because the machine is paused. Between frames the host calls again
(`60_exceptions.md` R284, R286, R294). -/
def schedulerStep (cfg : Config) (s : State) : Answer :=
  match s.status with
  | .faulted opcode pc => .fault (.faulted opcode pc)
  | .running =>
    match s.phase with
    | .betweenFrames => if s.frozen cfg then .next s else firstHalfTurn cfg s.startFrame
    | .firstHalf => firstHalfTurn cfg s
    | .secondHalf => secondHalfTurn cfg s

/-- The scheduler's next step is an `execute_one` call that fetches: running, not halted, not frozen,
no offer due. -/
def State.willFetch (cfg : Config) (s : State) : Bool :=
  decide (s.status = .running) && !s.halted &&
    match s.phase with
    | .betweenFrames => !s.frozen cfg && decide (0 < cfg.halfFrameCycles)
    | .firstHalf => decide (s.cyc < cfg.halfFrameCycles)
    | .secondHalf => decide (s.cyc < cfg.frameCycles)

/-- The state `exec` runs on in a step that fetches: the state itself, but for the start of a frame. -/
def State.atFetch (s : State) : State :=
  match s.phase with
  | .betweenFrames => s.startFrame
  | .firstHalf => s
  | .secondHalf => s

/-- Make the next step one that fetches, changing nothing where it already is (log entry 8). -/
def State.readyToFetch (s : State) : State :=
  if s.willFetch Config.hardware then s
  else { s with status := .running, halted := false, paused := false, phase := .betweenFrames }

/-- Store three bytes at PC, PC + 1 and PC + 2. -/
def State.placeAtPc (s : State) (b1 b2 b3 : Byte) : State :=
  { s with mem := Memory.write (Memory.write (Memory.write s.mem s.pc.toNat b1)
      (s.pc + 1).toNat b2) (s.pc + 2).toNat b3 }

end Sys2Proof.Machine
end

