-- ==== Sys2Proof/Machine/Step.lean ====
section
/-! DEFINITION. The machine's step, and a state whose next step runs a given instruction. -/

namespace Sys2Proof.Machine

/-- One step of the machine: one step of the frame scheduler of this hardware. -/
def step (s : State) : Host.Outcome State Fault Refusal := schedulerStep Config.hardware s

/-- `s` with the instruction whose bits are `w` where the next step fetches (log entry 8). -/
def State.withFetchWord (s : State) (nbits w : Nat) : State :=
  s.readyToFetch.placeAtPc (tableByte nbits w 0) (tableByte nbits w 1) (tableByte nbits w 2)

end Sys2Proof.Machine
end

