-- ==== Sys2Proof/Machine/Frame.lean ====
section
/-! DEFINITION. `run_one_frame()` as one call (`60_exceptions.md` R284, R286): the machine's steps from the
start of a frame to its return. -/

namespace Sys2Proof.Machine

/-- How a call of `run_one_frame` ends. -/
inductive FrameEnd where
  /-- It returns a cycle count. -/
  | returned (cycles : Nat) (s : State)
  /-- UnsupportedInstruction stopped it: no count is returned (`60_exceptions.md` R270). -/
  | stopped (s : State)
  /-- The call has no meaning in this state (`60_exceptions.md` R271), or a step refused. -/
  | noCall
  /-- The bound on the number of steps was too small; never so with `frameFuel` steps. -/
  | outOfFuel
  deriving DecidableEq, Repr

/-- Step until the scheduler is between frames again. -/
def frameLoop : Nat → State → FrameEnd
  | 0, _ => .outOfFuel
  | fuel + 1, s =>
    match step s with
    | .next t =>
      match t.status with
      | .faulted _ _ => .stopped t
      | .running =>
        match t.phase with
        | .betweenFrames => .returned t.cyc t
        | .firstHalf => frameLoop fuel t
        | .secondHalf => frameLoop fuel t
    | .fault _ => .noCall
    | .refused _ => .noCall

/-- A number of steps no frame exceeds: each `execute_one` call counts at least 4 cycles, and two more
steps offer the interrupts. -/
def frameFuel : Nat := Config.hardware.frameCycles + 3

/-- `run_one_frame()`, called between frames. Paused, it returns 0 and changes nothing
(`60_exceptions.md` R286); faulted, the call has no meaning (R271). -/
def runOneFrame (s : State) : FrameEnd :=
  match s.status with
  | .faulted _ _ => .noCall
  | .running => if s.frozen Config.hardware then .returned 0 s else frameLoop frameFuel s

end Sys2Proof.Machine
end

