-- ==== Sys2Proof/Machine/HostActions.lean ====
section
/-! DEFINITION. What the host can do to the block between two instructions (`00_scope.md` R3, R4), and what
it can read: `set_input_bit`, `pause`, `unpause`, `load_image`, the reset sequence, `framebuffer_byte`,
`is_paused`. -/

namespace Sys2Proof.Machine

/-- `X[i] <- v`, every other bit unchanged. -/
def setBit (x : Byte) (i : Nat) (v : Bool) : Byte :=
  if v then x ||| BitVec.twoPow 8 i else x &&& ~~~BitVec.twoPow 8 i

/-- `set_input_bit(port, bit_index, value)`; any other port or bit index has no meaning and is refused
(`20_memory.md` R79). -/
def State.setInputBit (s : State) (port : Byte) (bitIndex : Nat) (value : Bool) : Answer :=
  if 7 < bitIndex then .refused (.badInputBit port bitIndex)
  else if port = Config.hardware.inp1Port then .next { s with inp1 := setBit s.inp1 bitIndex value }
  else if port = Config.hardware.inp2Port then .next { s with inp2 := setBit s.inp2 bitIndex value }
  else .refused (.badInputBit port bitIndex)

/-- `pause()` (`60_exceptions.md` R286). -/
def State.pause (s : State) : State := { s with paused := true }

/-- `unpause()` (`60_exceptions.md` R286). -/
def State.unpause (s : State) : State := { s with paused := false }

/-- `is_paused()` (`60_exceptions.md` R286). -/
def isPaused (s : State) : Bool := s.paused

/-- Store bytes from an address up, the first at the lowest; ROM_WRITE_PROTECT does not apply. -/
def Memory.load : Memory → Nat → List Byte → Memory
  | m, _, [] => m
  | m, atAddr, v :: vs => Memory.load (Memory.write m atAddr v) (atAddr + 1) vs

/-- `load_image(bytes, at_addr)`; an image that does not fit is refused (`20_memory.md` R57). -/
def State.loadImage (s : State) (bytes : List Byte) (atAddr : Nat) : Answer :=
  if atAddr + bytes.length ≤ 65536 then .next { s with mem := Memory.load s.mem atAddr bytes }
  else .refused (.badImage bytes.length atAddr)

/-- The reset sequence: every piece of state takes its reset value, for some choice of the unspecified
ones, then the image is loaded at 0; an image shorter than ROM_SIZE is refused
(`70_reset_and_hazards.md` R310, `20_memory.md` R57). -/
def launch (cfg : Config) (u : Unspecified) (image : List Byte) : Answer :=
  if image.length < cfg.romSize then .refused (.badImage image.length 0)
  else (State.resetWith cfg u).loadImage image 0

/-- `framebuffer_byte(index)`, byte `index` of video RAM; an index outside it is refused
(`20_memory.md` R67). -/
def framebufferByte (s : State) (index : Nat) : Except Refusal Byte :=
  if index < Config.hardware.vramSize then .ok (Memory.read s.mem (Config.hardware.vramBase + index))
  else .error (.badFramebufferIndex index)

/-- The moves of the host that change the block. -/
inductive HostAction where
  | setInputBit (port : Byte) (bitIndex : Nat) (value : Bool)
  | pause
  | unpause
  /-- Reset and load an image; the unspecified state takes the values `u`. -/
  | restartWith (u : Unspecified) (image : List Byte)
  deriving DecidableEq, Repr

/-- One move of the host. -/
def hostStep (act : HostAction) (s : State) : Answer :=
  match act with
  | .setInputBit port bitIndex value => s.setInputBit port bitIndex value
  | .pause => .next s.pause
  | .unpause => .next s.unpause
  | .restartWith u image => launch Config.hardware u image

end Sys2Proof.Machine
end

