-- ==== Sys2Proof/Safety.lean ====
section
/-! DEFINITION. What claims about runs are stated in: the interleaving of machine steps and host moves,
the states a run reaches, and the invariants of the machine. -/

namespace Sys2Proof.Machine

/-- A move of the block: one step of the machine, or one move of the host between two of them
(`00_scope.md` R3, decision D25). -/
inductive Event where
  | machine
  | host (act : HostAction)
  deriving DecidableEq, Repr

/-- One move. -/
def eventStep (e : Event) (s : State) : Answer :=
  match e with
  | .machine => step s
  | .host act => hostStep act s

/-- A sequence of moves, stopping at the first fault or refusal. -/
def runEvents : List Event → State → Answer
  | [], s => .next s
  | e :: es, s =>
    match eventStep e s with
    | .next t => runEvents es t
    | .fault r => .fault r
    | .refused r => .refused r

/-- A safe state: UnsupportedInstruction has not been raised (`60_exceptions.md` R271). -/
abbrev Safe (s : State) : Prop := s.status = .running

/-- Memory is in its canonical form. -/
abbrev MemoryCanonical (s : State) : Prop := Memory.wf s.mem = true

/-- The frame's count fits the scheduler's position: it overshoots a threshold by at most 17 cycles, and
between frames it is 0 or what a frame returned (`60_exceptions.md` R285). -/
def frameCountFits (s : State) : Bool :=
  match s.phase with
  | .betweenFrames => decide (s.cyc = 0) || (decide (33333 ≤ s.cyc) && decide (s.cyc ≤ 33350))
  | .firstHalf => decide (s.cyc ≤ 16683)
  | .secondHalf => decide (16666 ≤ s.cyc) && decide (s.cyc ≤ 33350)

/-- `frameCountFits` as a proposition. -/
abbrev FrameCountFits (s : State) : Prop := frameCountFits s = true

/-- A recorded fault names an undocumented first byte, the byte that PC still addresses
(`60_exceptions.md` R270). -/
def faultRecordTrue (s : State) : Bool :=
  match s.status with
  | .running => true
  | .faulted opcode pc =>
    decide (opcode ∈ undocumentedOpcodes) && decide (s.pc = pc) && decide (s.readByte pc = opcode)

/-- `faultRecordTrue` as a proposition. -/
abbrev FaultRecordTrue (s : State) : Prop := faultRecordTrue s = true

end Sys2Proof.Machine
end

