-- ==== Sys2Proof/Certificates/Slice0/Obligations.lean ====
section
/-! DEFINITION. The statements for the provers. Each is made from the numbered rules of spec/ that its
entry in OBLIGATIONS.json cites. The first part names what the statements are written in. -/

namespace Sys2Proof.Machine.Claims

/-- The five flags by name (`10_state.md` R26). -/
inductive FlagName where
  | s | z | ac | p | cy
  deriving DecidableEq, Repr

/-- The flag of a name. -/
def flag (f : Flags) : FlagName → Bool
  | .s => f.s | .z => f.z | .ac => f.ac | .p => f.p | .cy => f.cy

/-- What an instruction may write besides PC and the cycle count: all that is not listed is kept. -/
structure Writes where
  regs : List Reg := []
  sp : Bool := false
  flags : List FlagName := []
  inte : Bool := false
  halted : Bool := false
  status : Bool := false
  shifter : Bool := false
  /-- The addresses stored to. -/
  stored : List Word := []

/-- From `s` to `t` nothing changed but PC, the cycle count and what `w` lists. Every byte of memory
outside the stored addresses reads as before (where memory is canonical; where nothing is stored, memory
is the same). -/
def Keeps (w : Writes) (s t : State) : Prop :=
  (∀ r, r ∉ w.regs → t.reg r = s.reg r) ∧
  (w.sp = false → t.sp = s.sp) ∧
  (∀ f, f ∉ w.flags → flag t.flags f = flag s.flags f) ∧
  (w.inte = false → t.inte = s.inte) ∧
  (w.halted = false → t.halted = s.halted) ∧
  (w.status = false → t.status = s.status) ∧
  (w.shifter = false → t.shift = s.shift ∧ t.shamt = s.shamt) ∧
  t.inp1 = s.inp1 ∧ t.inp2 = s.inp2 ∧ t.paused = s.paused ∧ t.phase = s.phase ∧
  (w.stored = [] → t.mem = s.mem) ∧
  (MemoryCanonical s → ∀ addr, addr ∉ w.stored → t.readByte addr = s.readByte addr)

/-- An instruction of `len` bytes went on to the next one at a cost of `cycles`. -/
def GoesOn (len : Word) (cycles : Nat) (s t : State) : Prop :=
  t.pc = s.pc + len ∧ t.cyc = s.cyc + cycles

/-- Z, S and P are those of the result `r`: zero, bit 7, an even number of 1 bits (`10_state.md` R26). -/
def ZspOf (r : Byte) (f : Flags) : Prop :=
  f.z = decide (r = 0) ∧ f.s = r.getLsbD 7 ∧
  f.p = !(r.getLsbD 0 ^^ r.getLsbD 1 ^^ r.getLsbD 2 ^^ r.getLsbD 3 ^^
          r.getLsbD 4 ^^ r.getLsbD 5 ^^ r.getLsbD 6 ^^ r.getLsbD 7)

/-- All five flags. -/
def allFlags : List FlagName := [.s, .z, .ac, .p, .cy]

/-- `i` adds `v` and `cin` to A (`41_arithmetic.md` R140). -/
def AddsToA (i : Instr) (v : Byte) (cin : Bool) (len : Word) (cycles : Nat) (s : State) : Prop :=
  ∃ t, exec i s = .next t ∧ t.a = s.a + v + BitVec.ofNat 8 cin.toNat ∧ ZspOf t.a t.flags ∧
    t.flags.cy = decide (255 < s.a.toNat + v.toNat + cin.toNat) ∧
    t.flags.ac = decide (15 < s.a.toNat % 16 + v.toNat % 16 + cin.toNat) ∧
    GoesOn len cycles s t ∧ Keeps { regs := [.a], flags := allFlags } s t

/-- `t` has the flags of `SUB8(a, v, bin)`: CY is the borrow, AC the absence of a borrow out of the low
nibble (`41_arithmetic.md` R141). -/
def SubtractFlags (a v : Byte) (bin : Bool) (f : Flags) : Prop :=
  ZspOf (a - v - BitVec.ofNat 8 bin.toNat) f ∧
  f.cy = decide (a.toNat < v.toNat + bin.toNat) ∧
  f.ac = decide (v.toNat % 16 + bin.toNat ≤ a.toNat % 16)

/-- `i` subtracts `v` and `bin` from A (`41_arithmetic.md` R141). -/
def SubtractsFromA (i : Instr) (v : Byte) (bin : Bool) (len : Word) (cycles : Nat) (s : State) : Prop :=
  ∃ t, exec i s = .next t ∧ t.a = s.a - v - BitVec.ofNat 8 bin.toNat ∧
    SubtractFlags s.a v bin t.flags ∧
    GoesOn len cycles s t ∧ Keeps { regs := [.a], flags := allFlags } s t

/-- `i` compares A with `v`: the flags of a subtraction, A kept (`42_logical.md` R180). -/
def ComparesA (i : Instr) (v : Byte) (len : Word) (cycles : Nat) (s : State) : Prop :=
  ∃ t, exec i s = .next t ∧ SubtractFlags s.a v false t.flags ∧
    (t.flags.z = true ↔ s.a = v) ∧ (t.flags.cy = true ↔ s.a.toNat < v.toNat) ∧
    GoesOn len cycles s t ∧ Keeps { flags := allFlags } s t

/-- `i` writes the result `r` of a logical operation to A, with CY 0 and the given AC (`42_logical.md`
R170). -/
def LogicToA (i : Instr) (r : Byte) (ac : Bool) (len : Word) (cycles : Nat) (s : State) : Prop :=
  ∃ t, exec i s = .next t ∧ t.a = r ∧ ZspOf r t.flags ∧ t.flags.cy = false ∧ t.flags.ac = ac ∧
    GoesOn len cycles s t ∧ Keeps { regs := [.a], flags := allFlags } s t

/-- `i` writes A and CY and no other flag (`43_rotate.md`). -/
def WritesAAndCy (i : Instr) (a : Byte) (cy : Bool) (s : State) : Prop :=
  ∃ t, exec i s = .next t ∧ t.a = a ∧ t.flags.cy = cy ∧
    GoesOn 1 4 s t ∧ Keeps { regs := [.a], flags := [.cy] } s t

/-- `v` lies on the stack of `t`, pushed from `s`: high byte at SP - 1, low byte at SP - 2
(`45_stack.md` R240). -/
def Pushed (v : Word) (s t : State) : Prop :=
  t.sp = s.sp - 2 ∧
  (MemoryCanonical s → t.readByte (s.sp - 1) = hi v ∧ t.readByte (s.sp - 2) = lo v)

/-- The push's writes. -/
def pushWrites (s : State) : Writes := { sp := true, stored := [s.sp - 1, s.sp - 2] }

/-- The two bytes at the top of the stack (`45_stack.md` R240). -/
def top (s : State) : Word := pair (s.readByte (s.sp + 1)) (s.readByte s.sp)

/-- `i`, three bytes, jumps to `a16` if `taken` and goes on otherwise, for 10 cycles
(`44_branch.md` R201 to R209). -/
def JumpsWhen (taken : Prop) [Decidable taken] (i : Instr) (a16 : Word) (s : State) : Prop :=
  ∃ t, exec i s = .next t ∧ t.pc = (if taken then a16 else s.pc + 3) ∧ t.cyc = s.cyc + 10 ∧
    Keeps {} s t

/-- `i`, three bytes, calls `a16` if `taken` (17 cycles) and goes on otherwise (11 cycles)
(`44_branch.md` R210 to R218). -/
def CallsWhen (taken : Prop) (i : Instr) (a16 : Word) (s : State) : Prop :=
  ∃ t, exec i s = .next t ∧
    (taken → t.pc = a16 ∧ t.cyc = s.cyc + 17 ∧ Pushed (s.pc + 3) s t ∧ Keeps (pushWrites s) s t) ∧
    (¬ taken → GoesOn 3 11 s t ∧ Keeps {} s t)

/-- `i`, one byte, returns if `taken` (`cycles`) and goes on otherwise (5 cycles)
(`44_branch.md` R219 to R227). -/
def ReturnsWhen (taken : Prop) (cycles : Nat) (i : Instr) (s : State) : Prop :=
  ∃ t, exec i s = .next t ∧
    (taken → t.pc = top s ∧ t.sp = s.sp + 2 ∧ t.cyc = s.cyc + cycles ∧ Keeps { sp := true } s t) ∧
    (¬ taken → GoesOn 1 5 s t ∧ Keeps {} s t)

/-- The registers a pair is made of; SP is made of none (`10_state.md` R21). -/
def pairRegs : Pair → List Reg
  | .bc => [.b, .c] | .de => [.d, .e] | .hl => [.h, .l] | .sp => []

/-- The writes of an instruction that writes the pair `p`. -/
def pairWrites (p : Pair) : Writes := { regs := pairRegs p, sp := decide (p = .sp) }

/-- The 12 undocumented rows with their first bytes (`30_encoding.md` R101). -/
def undocumentedRows : List (Byte × Instr) :=
  [(0x08, .undoc08), (0x10, .undoc10), (0x18, .undoc18), (0x20, .undoc20), (0x28, .undoc28),
   (0x30, .undoc30), (0x38, .undoc38), (0xCB, .undocCB), (0xD9, .undocD9), (0xDD, .undocDD),
   (0xED, .undocED), (0xFD, .undocFD)]

/-- The three bytes from PC up. -/
def bytesAtPc (s : State) : List Byte :=
  [s.readByte s.pc, s.readByte (s.pc + 1), s.readByte (s.pc + 2)]

end Sys2Proof.Machine.Claims

open Sys2Proof Sys2Proof.Machine Sys2Proof.Machine.Claims

/-! ### Encoding -/

/-- R90, R93, R96: decoding the encoding of any instruction, whatever follows it, gives the instruction
back with every operand, and the bytes that follow. -/
def Obligations.DecodeAfterEncode : Prop :=
  ∀ (i : Instr) (rest : List Byte), decode (encode i ++ rest) = .ok (i, rest)

/-- R96, R102: whatever bytes decode, the instruction's encoding is exactly the bytes taken. -/
def Obligations.EncodeAfterDecode : Prop :=
  ∀ (bytes rest : List Byte) (i : Instr), decode bytes = .ok (i, rest) → encode i ++ rest = bytes

/-- R90 with UNDOC_POLICY = fault: the length of the instruction a first byte decodes to. -/
def Obligations.LengthByFirstByte : Prop :=
  ∀ op b2 b3 : Byte,
    ((decodeOp op b2 b3).length = 3 ↔
      op ∈ ([0x01, 0x11, 0x21, 0x31, 0x22, 0x2A, 0x32, 0x3A, 0xC3, 0xCD] : List Byte) ∨
      (∃ cc : Cond, op = 0xC2 + 8 * cc.code) ∨ (∃ cc : Cond, op = 0xC4 + 8 * cc.code)) ∧
    ((decodeOp op b2 b3).length = 2 ↔
      (∃ r : Reg, op = 0x06 + 8 * r.code) ∨ op = 0x36 ∨ (∃ o : AluOp, op = 0xC6 + 8 * o.code) ∨
      op = 0xD3 ∨ op = 0xDB) ∧
    (1 ≤ (decodeOp op b2 b3).length ∧ (decodeOp op b2 b3).length ≤ 3)

/-- R101: exactly the 12 listed first bytes decode to an instruction outside the documented set. -/
def Obligations.TwelveUndocumentedFirstBytes : Prop :=
  ∀ op b2 b3 : Byte, ¬ (decodeOp op b2 b3).WellFormed ↔
    op ∈ ([0x08, 0x10, 0x18, 0x20, 0x28, 0x30, 0x38, 0xCB, 0xD9, 0xDD, 0xED, 0xFD] : List Byte)

/-- Words written out bit by bit from the encodings of R121, R125, R142, R193, R202, R228, R242, R255
and R259 decode to the instructions they stand for. -/
def Obligations.WordsOfTheSpecDecode : Prop :=
  decode [0b01100110] = .ok (.movHM, []) ∧
  decode [0b00100001, 0x03, 0x01] = .ok (.lxiH 0x0103, []) ∧
  decode [0b10000010] = .ok (.addD, []) ∧
  decode [0b00011111] = .ok (.rar, []) ∧
  decode [0b11000010, 0x00, 0x20] = .ok (.jnz 0x2000, []) ∧
  decode [0b11101111] = .ok (.rst5, []) ∧
  decode [0b11110101] = .ok (.pushPsw, []) ∧
  decode [0b11011011, 0x01] = .ok (.inPort 0x01, []) ∧
  decode [0b01110110] = .ok (.hlt, [])

/-! ### Data transfer -/

/-- R120. -/
def Obligations.MovRegisterToRegister : Prop :=
  ∀ (r1 r2 : Reg) (s : State),
    encode (Instr.mov r1 r2) = [0x40 + 8 * r1.code + r2.code] ∧
    ∃ t, exec (Instr.mov r1 r2) s = .next t ∧ t.reg r1 = s.reg r2 ∧ GoesOn 1 5 s t ∧
      Keeps { regs := [r1] } s t

/-- R121, R122: the address is HL before the instruction. -/
def Obligations.MovFromAndToMemory : Prop :=
  ∀ (r : Reg) (s : State),
    (encode (Instr.movFromM r) = [0x46 + 8 * r.code] ∧
      ∃ t, exec (Instr.movFromM r) s = .next t ∧ t.reg r = s.readByte (pair s.h s.l) ∧
        GoesOn 1 7 s t ∧ Keeps { regs := [r] } s t) ∧
    (encode (Instr.movToM r) = [0x70 + r.code] ∧
      ∃ t, exec (Instr.movToM r) s = .next t ∧
        (MemoryCanonical s → t.readByte (pair s.h s.l) = s.reg r) ∧
        GoesOn 1 7 s t ∧ Keeps { stored := [pair s.h s.l] } s t)

/-- R123, R124. -/
def Obligations.MoveImmediate : Prop :=
  ∀ (r : Reg) (d8 : Byte) (s : State),
    (encode (Instr.mvi r d8) = [0x06 + 8 * r.code, d8] ∧
      ∃ t, exec (Instr.mvi r d8) s = .next t ∧ t.reg r = d8 ∧ GoesOn 2 7 s t ∧
        Keeps { regs := [r] } s t) ∧
    (encode (.mviM d8) = [0x36, d8] ∧
      ∃ t, exec (.mviM d8) s = .next t ∧ (MemoryCanonical s → t.readByte (pair s.h s.l) = d8) ∧
        GoesOn 2 10 s t ∧ Keeps { stored := [pair s.h s.l] } s t)

/-- R125. -/
def Obligations.LoadPairImmediate : Prop :=
  ∀ (p : Pair) (b2 b3 : Byte) (s : State),
    encode (Instr.lxi p (pair b3 b2)) = [0x01 + 16 * p.code, b2, b3] ∧
    ∃ t, exec (Instr.lxi p (pair b3 b2)) s = .next t ∧
      (match p with
        | .bc => t.b = b3 ∧ t.c = b2
        | .de => t.d = b3 ∧ t.e = b2
        | .hl => t.h = b3 ∧ t.l = b2
        | .sp => t.sp = pair b3 b2) ∧
      GoesOn 3 10 s t ∧ Keeps (pairWrites p) s t

/-- R126, R127. -/
def Obligations.LoadAndStoreADirect : Prop :=
  ∀ (b2 b3 : Byte) (s : State),
    (encode (.lda (pair b3 b2)) = [0x3A, b2, b3] ∧
      ∃ t, exec (.lda (pair b3 b2)) s = .next t ∧ t.a = s.readByte (pair b3 b2) ∧
        GoesOn 3 13 s t ∧ Keeps { regs := [.a] } s t) ∧
    (encode (.sta (pair b3 b2)) = [0x32, b2, b3] ∧
      ∃ t, exec (.sta (pair b3 b2)) s = .next t ∧
        (MemoryCanonical s → t.readByte (pair b3 b2) = s.a) ∧
        GoesOn 3 13 s t ∧ Keeps { stored := [pair b3 b2] } s t)

/-- R128, R129: the second byte is at `a16 + 1` modulo 65,536. -/
def Obligations.LoadAndStoreHlDirect : Prop :=
  ∀ (b2 b3 : Byte) (s : State),
    (encode (.lhld (pair b3 b2)) = [0x2A, b2, b3] ∧
      ∃ t, exec (.lhld (pair b3 b2)) s = .next t ∧ t.l = s.readByte (pair b3 b2) ∧
        t.h = s.readByte (pair b3 b2 + 1) ∧ GoesOn 3 16 s t ∧ Keeps { regs := [.h, .l] } s t) ∧
    (encode (.shld (pair b3 b2)) = [0x22, b2, b3] ∧
      ∃ t, exec (.shld (pair b3 b2)) s = .next t ∧
        (MemoryCanonical s → t.readByte (pair b3 b2) = s.l ∧ t.readByte (pair b3 b2 + 1) = s.h) ∧
        GoesOn 3 16 s t ∧ Keeps { stored := [pair b3 b2, pair b3 b2 + 1] } s t)

/-- R130, R131. -/
def Obligations.LoadAndStoreAIndexed : Prop :=
  ∀ (p : IndexPair) (s : State),
    let addr := match p with
      | .bc => pair s.b s.c
      | .de => pair s.d s.e
    (encode (Instr.ldax p) = [0x0A + 16 * p.code] ∧
      ∃ t, exec (Instr.ldax p) s = .next t ∧ t.a = s.readByte addr ∧ GoesOn 1 7 s t ∧
        Keeps { regs := [.a] } s t) ∧
    (encode (Instr.stax p) = [0x02 + 16 * p.code] ∧
      ∃ t, exec (Instr.stax p) s = .next t ∧ (MemoryCanonical s → t.readByte addr = s.a) ∧
        GoesOn 1 7 s t ∧ Keeps { stored := [addr] } s t)

/-- R132. -/
def Obligations.ExchangeHlWithDe : Prop :=
  ∀ s : State, encode .xchg = [0xEB] ∧
    ∃ t, exec .xchg s = .next t ∧ t.h = s.d ∧ t.l = s.e ∧ t.d = s.h ∧ t.e = s.l ∧ GoesOn 1 4 s t ∧
      Keeps { regs := [.d, .e, .h, .l] } s t

/-! ### Arithmetic -/

/-- R142 to R147, with ADD8 of R140. CY on entry counts for ADC and ACI only. -/
def Obligations.AddToAccumulator : Prop :=
  ∀ (r : Reg) (d8 : Byte) (s : State),
    (encode (Instr.aluReg .add r) = [0x80 + r.code] ∧
      AddsToA (Instr.aluReg .add r) (s.reg r) false 1 4 s) ∧
    (encode .addM = [0x86] ∧ AddsToA .addM (s.readByte (pair s.h s.l)) false 1 7 s) ∧
    (encode (.adi d8) = [0xC6, d8] ∧ AddsToA (.adi d8) d8 false 2 7 s) ∧
    (encode (Instr.aluReg .adc r) = [0x88 + r.code] ∧
      AddsToA (Instr.aluReg .adc r) (s.reg r) s.flags.cy 1 4 s) ∧
    (encode .adcM = [0x8E] ∧ AddsToA .adcM (s.readByte (pair s.h s.l)) s.flags.cy 1 7 s) ∧
    (encode (.aci d8) = [0xCE, d8] ∧ AddsToA (.aci d8) d8 s.flags.cy 2 7 s)

/-- R148 to R153, with SUB8 of R141. CY on entry counts for SBB and SBI only. -/
def Obligations.SubtractFromAccumulator : Prop :=
  ∀ (r : Reg) (d8 : Byte) (s : State),
    (encode (Instr.aluReg .sub r) = [0x90 + r.code] ∧
      SubtractsFromA (Instr.aluReg .sub r) (s.reg r) false 1 4 s) ∧
    (encode .subM = [0x96] ∧ SubtractsFromA .subM (s.readByte (pair s.h s.l)) false 1 7 s) ∧
    (encode (.sui d8) = [0xD6, d8] ∧ SubtractsFromA (.sui d8) d8 false 2 7 s) ∧
    (encode (Instr.aluReg .sbb r) = [0x98 + r.code] ∧
      SubtractsFromA (Instr.aluReg .sbb r) (s.reg r) s.flags.cy 1 4 s) ∧
    (encode .sbbM = [0x9E] ∧ SubtractsFromA .sbbM (s.readByte (pair s.h s.l)) s.flags.cy 1 7 s) ∧
    (encode (.sbi d8) = [0xDE, d8] ∧ SubtractsFromA (.sbi d8) d8 s.flags.cy 2 7 s)

/-- R154, R156: CY is kept. -/
def Obligations.IncrementAndDecrementRegister : Prop :=
  ∀ (r : Reg) (s : State),
    (encode (Instr.inr r) = [0x04 + 8 * r.code] ∧
      ∃ t, exec (Instr.inr r) s = .next t ∧ t.reg r = s.reg r + 1 ∧ ZspOf (s.reg r + 1) t.flags ∧
        t.flags.ac = decide ((s.reg r).toNat % 16 = 15) ∧ GoesOn 1 5 s t ∧
        Keeps { regs := [r], flags := [.s, .z, .ac, .p] } s t) ∧
    (encode (Instr.dcr r) = [0x05 + 8 * r.code] ∧
      ∃ t, exec (Instr.dcr r) s = .next t ∧ t.reg r = s.reg r - 1 ∧ ZspOf (s.reg r - 1) t.flags ∧
        t.flags.ac = decide ((s.reg r).toNat % 16 ≠ 0) ∧ GoesOn 1 5 s t ∧
        Keeps { regs := [r], flags := [.s, .z, .ac, .p] } s t)

/-- R155, R157: CY is kept. -/
def Obligations.IncrementAndDecrementMemory : Prop :=
  ∀ s : State,
    let addr := pair s.h s.l
    let v := s.readByte addr
    (encode .inrM = [0x34] ∧
      ∃ t, exec .inrM s = .next t ∧ (MemoryCanonical s → t.readByte addr = v + 1) ∧
        ZspOf (v + 1) t.flags ∧ t.flags.ac = decide (v.toNat % 16 = 15) ∧ GoesOn 1 10 s t ∧
        Keeps { flags := [.s, .z, .ac, .p], stored := [addr] } s t) ∧
    (encode .dcrM = [0x35] ∧
      ∃ t, exec .dcrM s = .next t ∧ (MemoryCanonical s → t.readByte addr = v - 1) ∧
        ZspOf (v - 1) t.flags ∧ t.flags.ac = decide (v.toNat % 16 ≠ 0) ∧ GoesOn 1 10 s t ∧
        Keeps { flags := [.s, .z, .ac, .p], stored := [addr] } s t)

/-- R158, R159: no flag. -/
def Obligations.IncrementAndDecrementPair : Prop :=
  ∀ (p : Pair) (s : State),
    (encode (Instr.inx p) = [0x03 + 16 * p.code] ∧
      ∃ t, exec (Instr.inx p) s = .next t ∧ (t.rp p).toNat = ((s.rp p).toNat + 1) % 65536 ∧
        GoesOn 1 5 s t ∧ Keeps (pairWrites p) s t) ∧
    (encode (Instr.dcx p) = [0x0B + 16 * p.code] ∧
      ∃ t, exec (Instr.dcx p) s = .next t ∧ (t.rp p).toNat = ((s.rp p).toNat + 65535) % 65536 ∧
        GoesOn 1 5 s t ∧ Keeps (pairWrites p) s t)

/-- R160: CY only. -/
def Obligations.AddPairToHl : Prop :=
  ∀ (p : Pair) (s : State),
    encode (Instr.dad p) = [0x09 + 16 * p.code] ∧
    ∃ t, exec (Instr.dad p) s = .next t ∧ pair t.h t.l = pair s.h s.l + s.rp p ∧
      t.flags.cy = decide (65535 < (pair s.h s.l).toNat + (s.rp p).toNat) ∧ GoesOn 1 10 s t ∧
      Keeps { regs := [.h, .l], flags := [.cy] } s t

/-- R161. -/
def Obligations.DecimalAdjust : Prop :=
  ∀ s : State,
    let low := s.a.toNat % 16
    let high := s.a.toNat / 16
    let addsSix : Prop := s.flags.ac = true ∨ 9 < low
    let addsSixty : Prop := s.flags.cy = true ∨ 9 < high ∨ (9 ≤ high ∧ 9 < low)
    encode .daa = [0x27] ∧
    ∃ t, exec .daa s = .next t ∧
      (addsSix → addsSixty → t.a = s.a + 0x66) ∧ (addsSix → ¬ addsSixty → t.a = s.a + 0x06) ∧
      (¬ addsSix → addsSixty → t.a = s.a + 0x60) ∧ (¬ addsSix → ¬ addsSixty → t.a = s.a) ∧
      ZspOf t.a t.flags ∧ (t.flags.ac = true ↔ addsSix ∧ 15 < low + 6) ∧
      (t.flags.cy = true ↔ addsSixty) ∧ GoesOn 1 4 s t ∧
      Keeps { regs := [.a], flags := allFlags } s t

/-! ### Logical -/

/-- R171 to R173: AC is bit 3 of (A or operand). -/
def Obligations.AndWithAccumulator : Prop :=
  ∀ (r : Reg) (d8 : Byte) (s : State),
    let m := s.readByte (pair s.h s.l)
    (encode (Instr.aluReg .ana r) = [0xA0 + r.code] ∧
      LogicToA (Instr.aluReg .ana r) (s.a &&& s.reg r) (s.a.getLsbD 3 || (s.reg r).getLsbD 3) 1 4 s) ∧
    (encode .anaM = [0xA6] ∧ LogicToA .anaM (s.a &&& m) (s.a.getLsbD 3 || m.getLsbD 3) 1 7 s) ∧
    (encode (.ani d8) = [0xE6, d8] ∧
      LogicToA (.ani d8) (s.a &&& d8) (s.a.getLsbD 3 || d8.getLsbD 3) 2 7 s)

/-- R174 to R179: AC is 0. -/
def Obligations.ExclusiveOrAndOrWithAccumulator : Prop :=
  ∀ (r : Reg) (d8 : Byte) (s : State),
    let m := s.readByte (pair s.h s.l)
    (encode (Instr.aluReg .xra r) = [0xA8 + r.code] ∧
      LogicToA (Instr.aluReg .xra r) (s.a ^^^ s.reg r) false 1 4 s) ∧
    (encode .xraM = [0xAE] ∧ LogicToA .xraM (s.a ^^^ m) false 1 7 s) ∧
    (encode (.xri d8) = [0xEE, d8] ∧ LogicToA (.xri d8) (s.a ^^^ d8) false 2 7 s) ∧
    (encode (Instr.aluReg .ora r) = [0xB0 + r.code] ∧
      LogicToA (Instr.aluReg .ora r) (s.a ||| s.reg r) false 1 4 s) ∧
    (encode .oraM = [0xB6] ∧ LogicToA .oraM (s.a ||| m) false 1 7 s) ∧
    (encode (.ori d8) = [0xF6, d8] ∧ LogicToA (.ori d8) (s.a ||| d8) false 2 7 s)

/-- R180 to R182: A is kept. -/
def Obligations.CompareWithAccumulator : Prop :=
  ∀ (r : Reg) (d8 : Byte) (s : State),
    (encode (Instr.aluReg .cmp r) = [0xB8 + r.code] ∧
      ComparesA (Instr.aluReg .cmp r) (s.reg r) 1 4 s) ∧
    (encode .cmpM = [0xBE] ∧ ComparesA .cmpM (s.readByte (pair s.h s.l)) 1 7 s) ∧
    (encode (.cpi d8) = [0xFE, d8] ∧ ComparesA (.cpi d8) d8 2 7 s)

/-- R183, R184, R185. -/
def Obligations.ComplementAndCarry : Prop :=
  ∀ s : State,
    (encode .cma = [0x2F] ∧
      ∃ t, exec .cma s = .next t ∧ t.a = ~~~s.a ∧ GoesOn 1 4 s t ∧ Keeps { regs := [.a] } s t) ∧
    (encode .cmc = [0x3F] ∧
      ∃ t, exec .cmc s = .next t ∧ t.flags.cy = !s.flags.cy ∧ GoesOn 1 4 s t ∧
        Keeps { flags := [.cy] } s t) ∧
    (encode .stc = [0x37] ∧
      ∃ t, exec .stc s = .next t ∧ t.flags.cy = true ∧ GoesOn 1 4 s t ∧
        Keeps { flags := [.cy] } s t)

/-- R190 to R193: RAL and RAR take the old CY in. -/
def Obligations.RotateAccumulator : Prop :=
  ∀ s : State,
    (encode .rlc = [0x07] ∧ WritesAAndCy .rlc (s.a.rotateLeft 1) (s.a.getLsbD 7) s) ∧
    (encode .rrc = [0x0F] ∧ WritesAAndCy .rrc (s.a.rotateRight 1) (s.a.getLsbD 0) s) ∧
    (encode .ral = [0x17] ∧
      WritesAAndCy .ral ((s.a <<< 1) ||| BitVec.ofNat 8 s.flags.cy.toNat) (s.a.getLsbD 7) s) ∧
    (encode .rar = [0x1F] ∧
      WritesAAndCy .rar ((s.a >>> 1) ||| BitVec.ofNat 8 (128 * s.flags.cy.toNat)) (s.a.getLsbD 0) s)

/-! ### Control transfer -/

/-- R201 to R209, and the first byte 0xCB with UNDOC_POLICY = alias (R201). -/
def Obligations.JumpsUnconditionalAndConditional : Prop :=
  ∀ (a16 : Word) (s : State),
    (encode (.jmp a16) = [0xC3, lo a16, hi a16] ∧ JumpsWhen True (.jmp a16) a16 s ∧
      ∀ cfg : Config, cfg.undocPolicy = .aliases → undocumentedOn cfg 0xCB s =
        exec (.jmp (pair (s.readByte (s.pc + 2)) (s.readByte (s.pc + 1)))) s) ∧
    (encode (.jnz a16) = [0xC2, lo a16, hi a16] ∧ JumpsWhen (s.flags.z = false) (.jnz a16) a16 s) ∧
    (encode (.jz a16) = [0xCA, lo a16, hi a16] ∧ JumpsWhen (s.flags.z = true) (.jz a16) a16 s) ∧
    (encode (.jnc a16) = [0xD2, lo a16, hi a16] ∧ JumpsWhen (s.flags.cy = false) (.jnc a16) a16 s) ∧
    (encode (.jc a16) = [0xDA, lo a16, hi a16] ∧ JumpsWhen (s.flags.cy = true) (.jc a16) a16 s) ∧
    (encode (.jpo a16) = [0xE2, lo a16, hi a16] ∧ JumpsWhen (s.flags.p = false) (.jpo a16) a16 s) ∧
    (encode (.jpe a16) = [0xEA, lo a16, hi a16] ∧ JumpsWhen (s.flags.p = true) (.jpe a16) a16 s) ∧
    (encode (.jp a16) = [0xF2, lo a16, hi a16] ∧ JumpsWhen (s.flags.s = false) (.jp a16) a16 s) ∧
    (encode (.jm a16) = [0xFA, lo a16, hi a16] ∧ JumpsWhen (s.flags.s = true) (.jm a16) a16 s)

/-- R210 to R218, and the first bytes 0xDD, 0xED, 0xFD with UNDOC_POLICY = alias (R210). -/
def Obligations.CallsUnconditionalAndConditional : Prop :=
  ∀ (a16 : Word) (s : State),
    (encode (.call a16) = [0xCD, lo a16, hi a16] ∧ CallsWhen True (.call a16) a16 s ∧
      ∀ cfg : Config, cfg.undocPolicy = .aliases → ∀ op ∈ ([0xDD, 0xED, 0xFD] : List Byte),
        undocumentedOn cfg op s =
          exec (.call (pair (s.readByte (s.pc + 2)) (s.readByte (s.pc + 1)))) s) ∧
    (encode (.cnz a16) = [0xC4, lo a16, hi a16] ∧ CallsWhen (s.flags.z = false) (.cnz a16) a16 s) ∧
    (encode (.cz a16) = [0xCC, lo a16, hi a16] ∧ CallsWhen (s.flags.z = true) (.cz a16) a16 s) ∧
    (encode (.cnc a16) = [0xD4, lo a16, hi a16] ∧ CallsWhen (s.flags.cy = false) (.cnc a16) a16 s) ∧
    (encode (.cc a16) = [0xDC, lo a16, hi a16] ∧ CallsWhen (s.flags.cy = true) (.cc a16) a16 s) ∧
    (encode (.cpo a16) = [0xE4, lo a16, hi a16] ∧ CallsWhen (s.flags.p = false) (.cpo a16) a16 s) ∧
    (encode (.cpe a16) = [0xEC, lo a16, hi a16] ∧ CallsWhen (s.flags.p = true) (.cpe a16) a16 s) ∧
    (encode (.cp a16) = [0xF4, lo a16, hi a16] ∧ CallsWhen (s.flags.s = false) (.cp a16) a16 s) ∧
    (encode (.cm a16) = [0xFC, lo a16, hi a16] ∧ CallsWhen (s.flags.s = true) (.cm a16) a16 s)

/-- R219 to R227, and the first byte 0xD9 with UNDOC_POLICY = alias (R219). -/
def Obligations.ReturnsUnconditionalAndConditional : Prop :=
  ∀ s : State,
    (encode .ret = [0xC9] ∧ ReturnsWhen True 10 .ret s ∧
      ∀ cfg : Config, cfg.undocPolicy = .aliases → undocumentedOn cfg 0xD9 s = exec .ret s) ∧
    (encode .rnz = [0xC0] ∧ ReturnsWhen (s.flags.z = false) 11 .rnz s) ∧
    (encode .rz = [0xC8] ∧ ReturnsWhen (s.flags.z = true) 11 .rz s) ∧
    (encode .rnc = [0xD0] ∧ ReturnsWhen (s.flags.cy = false) 11 .rnc s) ∧
    (encode .rc = [0xD8] ∧ ReturnsWhen (s.flags.cy = true) 11 .rc s) ∧
    (encode .rpo = [0xE0] ∧ ReturnsWhen (s.flags.p = false) 11 .rpo s) ∧
    (encode .rpe = [0xE8] ∧ ReturnsWhen (s.flags.p = true) 11 .rpe s) ∧
    (encode .rp = [0xF0] ∧ ReturnsWhen (s.flags.s = false) 11 .rp s) ∧
    (encode .rm = [0xF8] ∧ ReturnsWhen (s.flags.s = true) 11 .rm s)

/-- R228: INTE is neither read nor written. -/
def Obligations.RestartCalls : Prop :=
  ∀ (n : Fin 8) (s : State),
    encode (Instr.rst n) = [BitVec.ofNat 8 (0xC7 + 8 * n.val)] ∧
    ∃ t, exec (Instr.rst n) s = .next t ∧ t.pc.toNat = 8 * n.val ∧ t.cyc = s.cyc + 11 ∧
      Pushed (s.pc + 1) s t ∧ Keeps (pushWrites s) s t

/-- R229. -/
def Obligations.JumpToHl : Prop :=
  ∀ s : State, encode .pchl = [0xE9] ∧
    ∃ t, exec .pchl s = .next t ∧ t.pc = pair s.h s.l ∧ t.cyc = s.cyc + 5 ∧ Keeps {} s t

/-! ### Stack -/

/-- R241, R242: the flag byte of PSW is S Z 0 AC 0 P 1 CY. -/
def Obligations.PushPair : Prop :=
  ∀ (p : StackPair) (s : State),
    encode (Instr.push p) = [0xC5 + 16 * p.code] ∧
    ∃ t, exec (Instr.push p) s = .next t ∧
      Pushed (match p with
        | .bc => pair s.b s.c
        | .de => pair s.d s.e
        | .hl => pair s.h s.l
        | .psw => pair s.a (BitVec.ofNat 8 (128 * s.flags.s.toNat + 64 * s.flags.z.toNat +
            16 * s.flags.ac.toNat + 4 * s.flags.p.toNat + 2 + s.flags.cy.toNat))) s t ∧
      GoesOn 1 11 s t ∧ Keeps (pushWrites s) s t

/-- R243, R244: bits 5, 3 and 1 of a popped flag byte are ignored. -/
def Obligations.PopPair : Prop :=
  ∀ (p : StackPair) (s : State),
    let low := s.readByte s.sp
    let high := s.readByte (s.sp + 1)
    encode (Instr.pop p) = [0xC1 + 16 * p.code] ∧
    ∃ t, exec (Instr.pop p) s = .next t ∧ t.sp = s.sp + 2 ∧ GoesOn 1 10 s t ∧
      match p with
      | .bc => t.b = high ∧ t.c = low ∧ Keeps { regs := [.b, .c], sp := true } s t
      | .de => t.d = high ∧ t.e = low ∧ Keeps { regs := [.d, .e], sp := true } s t
      | .hl => t.h = high ∧ t.l = low ∧ Keeps { regs := [.h, .l], sp := true } s t
      | .psw => t.a = high ∧ t.flags.s = low.getLsbD 7 ∧ t.flags.z = low.getLsbD 6 ∧
          t.flags.ac = low.getLsbD 4 ∧ t.flags.p = low.getLsbD 2 ∧ t.flags.cy = low.getLsbD 0 ∧
          Keeps { regs := [.a], sp := true, flags := allFlags } s t

/-- R245, R246. -/
def Obligations.ExchangeTopAndLoadSp : Prop :=
  ∀ s : State,
    (encode .xthl = [0xE3] ∧
      ∃ t, exec .xthl s = .next t ∧ t.l = s.readByte s.sp ∧ t.h = s.readByte (s.sp + 1) ∧
        (MemoryCanonical s → t.readByte s.sp = s.l ∧ t.readByte (s.sp + 1) = s.h) ∧
        GoesOn 1 18 s t ∧ Keeps { regs := [.h, .l], stored := [s.sp, s.sp + 1] } s t) ∧
    (encode .sphl = [0xF9] ∧
      ∃ t, exec .sphl s = .next t ∧ t.sp = pair s.h s.l ∧ GoesOn 1 5 s t ∧ Keeps { sp := true } s t)

/-! ### Input, output, control -/

/-- R255 with R60 and R66. -/
def Obligations.InputFromPort : Prop :=
  ∀ (port : Byte) (s : State),
    encode (.inPort port) = [0xDB, port] ∧
    ∃ t, exec (.inPort port) s = .next t ∧
      (if port = 1 then t.a = s.inp1
       else if port = 2 then t.a = s.inp2
       else if port = 3 then t.a.toNat = s.shift.toNat / 2 ^ (8 - s.shamt.toNat) % 256
       else t.a = 0x00) ∧
      GoesOn 2 10 s t ∧ Keeps { regs := [.a] } s t

/-- R256 with R62 to R65. -/
def Obligations.OutputToPort : Prop :=
  ∀ (port : Byte) (s : State),
    encode (.outPort port) = [0xD3, port] ∧
    ∃ t, exec (.outPort port) s = .next t ∧
      (if port = 2 then t.shamt.toNat = s.a.toNat % 8 ∧ t.shift = s.shift
       else if port = 4 then
         t.shift.toNat = 256 * s.a.toNat + s.shift.toNat / 256 ∧ t.shamt = s.shamt
       else t.shift = s.shift ∧ t.shamt = s.shamt) ∧
      GoesOn 2 10 s t ∧ Keeps { shifter := true } s t

/-- R257, R258: both take effect at once. -/
def Obligations.EnableAndDisableInterrupts : Prop :=
  ∀ s : State,
    (encode .ei = [0xFB] ∧
      ∃ t, exec .ei s = .next t ∧ t.inte = true ∧ GoesOn 1 4 s t ∧ Keeps { inte := true } s t) ∧
    (encode .di = [0xF3] ∧
      ∃ t, exec .di s = .next t ∧ t.inte = false ∧ GoesOn 1 4 s t ∧ Keeps { inte := true } s t)

/-- R259, R260, and the seven first bytes that act as NOP with UNDOC_POLICY = alias (R260). -/
def Obligations.HaltAndNoOperation : Prop :=
  ∀ s : State,
    (encode .hlt = [0x76] ∧
      ∃ t, exec .hlt s = .next t ∧ t.halted = true ∧ GoesOn 1 7 s t ∧ Keeps { halted := true } s t) ∧
    (encode .nop = [0x00] ∧
      ∃ t, exec .nop s = .next t ∧ GoesOn 1 4 s t ∧ Keeps {} s t) ∧
    (∀ cfg : Config, cfg.undocPolicy = .aliases →
      ∀ op ∈ ([0x08, 0x10, 0x18, 0x20, 0x28, 0x30, 0x38] : List Byte),
        undocumentedOn cfg op s = exec .nop s)

/-! ### The fault, interrupts, execute_one, the scheduler -/

/-- R101, R270 with UNDOC_POLICY = fault: each undocumented first byte records itself and its address,
changes nothing else, counts no cycle, and no step follows, so no interrupt is offered. -/
def Obligations.UndocumentedByteFaults : Prop :=
  ∀ row ∈ undocumentedRows, ∀ s : State,
    encode row.2 = [row.1] ∧
    ∃ t, exec row.2 s = .next t ∧ t.status = .faulted row.1 s.pc ∧ t.pc = s.pc ∧ t.cyc = s.cyc ∧
      Keeps { status := true } s t ∧ step t = .fault (.faulted row.1 s.pc)

/-- R271: in the faulted state neither execute_one nor the scheduler nor run_one_frame has a step. -/
def Obligations.FaultedStateIsFinal : Prop :=
  ∀ (s : State) (opcode : Byte) (pc : Word), s.status = .faulted opcode pc →
    executeOne s = .fault (.faulted opcode pc) ∧ step s = .fault (.faulted opcode pc) ∧
    runOneFrame s = .noCall

/-- R276: an accepted interrupt pushes PC, clears INTE and HALTED and goes to `8 * n`; a dropped one
changes nothing. -/
def Obligations.InterruptAcceptance : Prop :=
  ∀ (n : Fin 8) (s : State),
    (s.inte = false → s.interrupt n = s) ∧
    (s.inte = true →
      let t := s.interrupt n
      t.halted = false ∧ t.inte = false ∧ t.pc.toNat = 8 * n.val ∧ t.cyc = s.cyc ∧
      Pushed s.pc s t ∧
      Keeps { sp := true, inte := true, halted := true, stored := [s.sp - 1, s.sp - 2] } s t)

/-- R283: the three cases of `execute_one`, and what a call that does not fault costs. -/
def Obligations.ExecuteOneCases : Prop :=
  ∀ s : State,
    (∀ opcode pc, s.status = .faulted opcode pc → executeOne s = .fault (.faulted opcode pc)) ∧
    (s.status = .running → s.halted = true → executeOne s = .next { s with cyc := s.cyc + 4 }) ∧
    (s.status = .running → s.halted = false → ∀ i rest, decode (bytesAtPc s) = .ok (i, rest) →
      executeOne s = exec i s) ∧
    (∀ t, executeOne s = .next t → t.status = .running → s.cyc + 4 ≤ t.cyc ∧ t.cyc ≤ s.cyc + 18)

/-- R105, R283, R284: where no offer is due, a step of a running, unhalted machine is `exec` of the
instruction its bytes at PC decode to; between frames the frame starts first, with count 0. -/
def Obligations.StepRunsTheDecodedInstruction : Prop :=
  ∀ (s : State) (i : Instr) (rest : List Byte), s.status = .running → s.halted = false →
    decode (bytesAtPc s) = .ok (i, rest) →
    (s.phase = .betweenFrames → s.paused = false →
      step s = exec i { s with cyc := 0, phase := .firstHalf }) ∧
    (s.phase = .firstHalf → s.cyc < 16666 → step s = exec i s) ∧
    (s.phase = .secondHalf → s.cyc < 33333 → step s = exec i s)

/-- R284, R275: at the thresholds the scheduler offers vector 1, then vector 2, and the frame ends; the
count goes on through the first and is left for the host at the second. A halted machine idles. -/
def Obligations.SchedulerOffersAtThresholds : Prop :=
  ∀ s : State, s.status = .running →
    (s.phase = .firstHalf → 16666 ≤ s.cyc →
      ∃ t, step s = .next t ∧ t = { s.interrupt 1 with phase := .secondHalf } ∧ t.cyc = s.cyc) ∧
    (s.phase = .secondHalf → 33333 ≤ s.cyc →
      ∃ t, step s = .next t ∧ t = { s.interrupt 2 with phase := .betweenFrames } ∧ t.cyc = s.cyc) ∧
    (s.halted = true → s.phase = .firstHalf → s.cyc < 16666 →
      step s = .next { s with cyc := s.cyc + 4 }) ∧
    (s.halted = true → s.phase = .secondHalf → s.cyc < 33333 →
      step s = .next { s with cyc := s.cyc + 4 })

/-- R285: a frame of a running, unpaused machine ends: it returns a count from 33,333 to 33,350, or the
fault stops it. -/
def Obligations.FrameReturnsWithinBounds : Prop :=
  ∀ s : State, s.status = .running → s.paused = false → s.phase = .betweenFrames →
    (∃ r t, runOneFrame s = .returned r t ∧ 33333 ≤ r ∧ r ≤ 33350 ∧ t.status = .running ∧
      t.paused = false ∧ t.phase = .betweenFrames) ∨
    (∃ t opcode pc, runOneFrame s = .stopped t ∧ t.status = .faulted opcode pc)

/-- R286: a paused frame returns 0 and changes nothing, and unpausing resumes the same run. -/
def Obligations.PausedFrameChangesNothing : Prop :=
  ∀ s : State, s.status = .running → s.phase = .betweenFrames →
    isPaused s.pause = true ∧ isPaused s.unpause = false ∧
    runOneFrame s.pause = .returned 0 s.pause ∧ step s.pause = .next s.pause ∧
    (s.paused = false → runOneFrame s.pause.unpause = runOneFrame s)

/-! ### Invariants -/

/-- The canonical form of memory holds in every state a step leads to. -/
def Obligations.StepKeepsMemoryCanonical : Prop :=
  ∀ s t : State, MemoryCanonical s → step s = .next t → MemoryCanonical t

/-- R285: every step keeps the frame's count within 17 cycles of its threshold. -/
def Obligations.StepKeepsFrameCount : Prop :=
  ∀ s t : State, FrameCountFits s → step s = .next t → FrameCountFits t

/-- R270: every step keeps a recorded fault true: an undocumented byte, still at PC. -/
def Obligations.StepKeepsFaultRecord : Prop :=
  ∀ s t : State, FaultRecordTrue s → step s = .next t → FaultRecordTrue t

/-- The three invariants hold right after reset, whatever the unspecified state is, as long as its memory
is canonical. -/
def Obligations.ResetMeetsTheInvariants : Prop :=
  ∀ u : Unspecified, Memory.wf u.mem = true →
    MemoryCanonical (State.resetWith Config.hardware u) ∧
    FrameCountFits (State.resetWith Config.hardware u) ∧
    FaultRecordTrue (State.resetWith Config.hardware u)

/-- Every move of the host keeps the three invariants (a reset with canonical unspecified memory). -/
def Obligations.HostMovesKeepTheInvariants : Prop :=
  ∀ (act : HostAction) (s t : State),
    (∀ u image, act = .restartWith u image → Memory.wf u.mem = true) →
    hostStep act s = .next t →
    (MemoryCanonical s → MemoryCanonical t) ∧ (FrameCountFits s → FrameCountFits t) ∧
    (FaultRecordTrue s → FaultRecordTrue t)

/-! ### Reset and the host -/

/-- R39, R57, R310: what a launch leaves, for every choice of the unspecified state. The clause `t.cyc = 0`
is the model's choice (DESIGN CHOICE, log entry 5): in R39 the count is not state between frames. -/
def Obligations.LaunchLeavesTheResetState : Prop :=
  ∀ (u : Unspecified) (image : List Byte), Memory.wf u.mem = true → 8192 ≤ image.length →
    image.length ≤ 65536 →
    ∃ t, launch Config.hardware u image = .next t ∧
      t.pc = 0x0000 ∧ t.sp = u.sp ∧
      t.flags = { s := false, z := false, ac := false, p := false, cy := false } ∧
      flagByte t.flags = 0x02 ∧
      t.a = u.a ∧ t.b = u.b ∧ t.c = u.c ∧ t.d = u.d ∧ t.e = u.e ∧ t.h = u.h ∧ t.l = u.l ∧
      t.inte = false ∧ t.halted = false ∧ t.status = .running ∧
      t.inp1 = 0x00 ∧ t.inp2 = 0x00 ∧ t.shift = u.shift ∧ t.shamt = u.shamt ∧
      t.paused = false ∧ t.cyc = 0 ∧
      (∀ addr : Word, t.readByte addr =
        if h : addr.toNat < image.length then image[addr.toNat] else Memory.read u.mem addr.toNat)

/-- The model's choice for the state the spec leaves unspecified (log entries 1 to 4, UNSPEC_FILL of R40):
`State.reset` has zeros in it, and every byte of its memory reads 0. -/
def Obligations.ResetFillsWithZero : Prop :=
  (∀ r : Reg, State.reset.reg r = 0) ∧ State.reset.sp = 0 ∧ State.reset.shift = 0 ∧
  State.reset.shamt = 0 ∧ ∀ addr : Word, State.reset.readByte addr = 0

/-- R79: the named bit takes the value, every other bit of both ports is kept, and any other port or bit
index is refused. -/
def Obligations.SetInputBitIsLocal : Prop :=
  ∀ (port : Byte) (i : Nat) (v : Bool) (s : State),
    if i < 8 ∧ port = 1 then
      ∃ t, s.setInputBit port i v = .next t ∧ t = { s with inp1 := t.inp1 } ∧
        ∀ k, t.inp1.getLsbD k = if k = i then v else s.inp1.getLsbD k
    else if i < 8 ∧ port = 2 then
      ∃ t, s.setInputBit port i v = .next t ∧ t = { s with inp2 := t.inp2 } ∧
        ∀ k, t.inp2.getLsbD k = if k = i then v else s.inp2.getLsbD k
    else s.setInputBit port i v = .refused (.badInputBit port i)

/-- R67 with R56: the framebuffer shows every byte written to video RAM at once. -/
def Obligations.FramebufferShowsStores : Prop :=
  ∀ (s : State) (index : Nat) (v : Byte), MemoryCanonical s →
    (index < 7168 →
      framebufferByte (s.writeByte (BitVec.ofNat 16 (0x2400 + index)) v) index = .ok v) ∧
    (7168 ≤ index → framebufferByte s index = .error (.badFramebufferIndex index))

/-! ### Rules of the whole machine -/

/-- R51, R55, R56: a read after a write gives the byte written, every other address is untouched, ROM
included. -/
def Obligations.ReadAfterWrite : Prop :=
  ∀ (s : State) (addr other : Word) (v : Byte), MemoryCanonical s →
    (s.writeByte addr v).readByte addr = v ∧
    (other ≠ addr → (s.writeByte addr v).readByte other = s.readByte other) ∧
    MemoryCanonical (s.writeByte addr v)

/-- R77: a store is seen by the very next fetch. -/
def Obligations.StoreIsSeenByNextFetch : Prop :=
  ∀ s : State, MemoryCanonical s →
    ∃ t b2 b3, exec (.sta (s.pc + 3)) s = .next t ∧ t.fetch = decodeOp s.a b2 b3

/-- R27: only these instructions can change a flag. -/
def Obligations.FlagWriters : Prop :=
  ∀ (i : Instr) (s t : State), exec i s = .next t → t.flags ≠ s.flags →
    (∃ op r, i = Instr.aluReg op r) ∨ (∃ op, i = Instr.aluM op) ∨ (∃ op d8, i = Instr.aluImm op d8) ∨
    (∃ r, i = Instr.inr r) ∨ (∃ r, i = Instr.dcr r) ∨ (∃ p, i = Instr.dad p) ∨
    i ∈ ([.inrM, .dcrM, .daa, .rlc, .rrc, .ral, .rar, .stc, .cmc, .popPsw] : List Instr)

/-- R29, R30, R31, R35, R36, R41: which instructions can change the control and device state. -/
def Obligations.ControlStateWriters : Prop :=
  ∀ (i : Instr) (s t : State), exec i s = .next t →
    (t.inte ≠ s.inte → i = .ei ∨ i = .di) ∧
    (t.halted ≠ s.halted → i = .hlt) ∧
    (t.status ≠ s.status → ¬ i.WellFormed) ∧
    (t.shift ≠ s.shift → i = .outPort 4) ∧
    (t.shamt ≠ s.shamt → i = .outPort 2) ∧
    (t.inp1 = s.inp1 ∧ t.inp2 = s.inp2 ∧ t.paused = s.paused ∧ t.phase = s.phase)

/-- R41, R58: which instructions can change SP, and which can change memory. -/
def Obligations.StackPointerAndMemoryWriters : Prop :=
  ∀ (i : Instr) (s t : State), exec i s = .next t →
    (t.sp ≠ s.sp →
      (∃ d16, i = .lxiSp d16) ∨ i ∈ ([.inxSp, .dcxSp, .sphl, .ret] : List Instr) ∨
      (∃ p, i = Instr.push p) ∨ (∃ p, i = Instr.pop p) ∨ (∃ a16, i = .call a16) ∨
      (∃ cc a16, i = Instr.callIf cc a16) ∨ (∃ cc, i = Instr.retIf cc) ∨ (∃ n, i = Instr.rst n)) ∧
    (t.mem ≠ s.mem →
      (∃ r, i = Instr.movToM r) ∨ (∃ d8, i = .mviM d8) ∨ (∃ a16, i = .sta a16) ∨
      (∃ a16, i = .shld a16) ∨ (∃ p, i = Instr.stax p) ∨
      i ∈ ([.inrM, .dcrM, .xthl] : List Instr) ∨ (∃ p, i = Instr.push p) ∨
      (∃ a16, i = .call a16) ∨ (∃ cc a16, i = Instr.callIf cc a16) ∨ (∃ n, i = Instr.rst n))

/-- R318: no instruction's result depends on the cycle count; the count only goes along. -/
def Obligations.ResultsDoNotDependOnTime : Prop :=
  ∀ (i : Instr) (s t : State) (n : Nat), exec i s = .next t →
    exec i { s with cyc := s.cyc + n } = .next { t with cyc := t.cyc + n }
end

