-- ==== Sys2Proof/Laws/Memory.lean ====
section
/-! SUPPORT. The laws of memory: read after write, other addresses, and the canonical form. -/

namespace Sys2Proof.Machine

@[simp] theorem Memory.read_nil (addr : Nat) : Memory.read [] addr = Memory.unlisted := rfl

theorem Memory.read_cons (k : Nat) (v : Byte) (m : Memory) (addr : Nat) :
    Memory.read ((k, v) :: m) addr =
      if addr = k then v else if addr < k then Memory.unlisted else Memory.read m addr := rfl

theorem Memory.wfFrom_cons (low k : Nat) (v : Byte) (m : Memory) :
    Memory.wfFrom low ((k, v) :: m) = true ↔
      low ≤ k ∧ k < 65536 ∧ v ≠ Memory.unlisted ∧ Memory.wfFrom (k + 1) m = true := by
  simp [Memory.wfFrom, and_assoc]

/-- A canonical tail stays canonical from any lower address. -/
theorem Memory.wfFrom_mono {low low' : Nat} (h : low' ≤ low) :
    ∀ {m : Memory}, Memory.wfFrom low m = true → Memory.wfFrom low' m = true
  | [], _ => rfl
  | (k, v) :: m, hm => by
    rw [Memory.wfFrom_cons] at hm ⊢
    exact ⟨by omega, hm.2⟩

/-- Below its first possible address a canonical list holds nothing. -/
theorem Memory.read_below {low addr : Nat} (h : addr < low) :
    ∀ {m : Memory}, Memory.wfFrom low m = true → Memory.read m addr = Memory.unlisted
  | [], _ => rfl
  | (k, v) :: m, hm => by
    rw [Memory.wfFrom_cons] at hm
    rw [Memory.read_cons, if_neg (by omega), if_pos (by omega)]

theorem Memory.read_write_same {m : Memory} (addr : Nat) (v : Byte) :
    ∀ {low : Nat}, Memory.wfFrom low m = true → Memory.read (Memory.write m addr v) addr = v := by
  induction m with
  | nil => intro low _; unfold Memory.write; split <;> simp_all [Memory.read]
  | cons entry m ih =>
    obtain ⟨k, w⟩ := entry
    intro low hm
    rw [Memory.wfFrom_cons] at hm
    unfold Memory.write
    split
    · split
      · next hlt hv => rw [Memory.read_cons, if_neg (by omega), if_pos hlt, hv]
      · rw [Memory.read_cons, if_pos rfl]
    · split
      · next _ heq =>
        subst heq
        split
        · next hv => rw [Memory.read_below (Nat.lt_succ_self _) hm.2.2.2, hv]
        · rw [Memory.read_cons, if_pos rfl]
      · rw [Memory.read_cons, if_neg (by assumption), if_neg (by assumption)]
        exact ih hm.2.2.2

theorem Memory.read_write_other {m : Memory} {addr addr' : Nat} (v : Byte) (h : addr' ≠ addr) :
    ∀ {low : Nat}, Memory.wfFrom low m = true →
      Memory.read (Memory.write m addr v) addr' = Memory.read m addr' := by
  induction m with
  | nil => intro low _; unfold Memory.write; split <;> simp [Memory.read, h]
  | cons entry m ih =>
    obtain ⟨k, w⟩ := entry
    intro low hm
    rw [Memory.wfFrom_cons] at hm
    unfold Memory.write
    split
    · split
      · rfl
      · rw [Memory.read_cons, if_neg h]
        split
        · rw [Memory.read_cons, if_neg (by omega), if_pos (by omega)]
        · rfl
    · split
      · next _ heq =>
        subst heq
        split
        · rw [Memory.read_cons, if_neg h]
          split
          · exact Memory.read_below (by omega) hm.2.2.2
          · rfl
        · simp only [Memory.read_cons, if_neg h]
      · simp only [Memory.read_cons]
        rw [ih hm.2.2.2]

theorem Memory.wfFrom_write {m : Memory} {addr : Nat} (v : Byte) (h : addr < 65536) :
    ∀ {low : Nat}, low ≤ addr → Memory.wfFrom low m = true →
      Memory.wfFrom low (Memory.write m addr v) = true := by
  induction m with
  | nil =>
    intro low hlow _
    unfold Memory.write
    split
    · rfl
    · rw [Memory.wfFrom_cons]; exact ⟨hlow, h, by assumption, rfl⟩
  | cons entry m ih =>
    obtain ⟨k, w⟩ := entry
    intro low hlow hm
    rw [Memory.wfFrom_cons] at hm
    unfold Memory.write
    split
    · split
      · rw [Memory.wfFrom_cons]; exact hm
      · rw [Memory.wfFrom_cons, Memory.wfFrom_cons]
        exact ⟨hlow, h, by assumption, by omega, hm.2.1, hm.2.2.1, hm.2.2.2⟩
    · split
      · next _ heq =>
        subst heq
        split
        · exact Memory.wfFrom_mono (by omega) hm.2.2.2
        · rw [Memory.wfFrom_cons]; exact ⟨hlow, h, by assumption, hm.2.2.2⟩
      · rw [Memory.wfFrom_cons]
        exact ⟨hm.1, hm.2.1, hm.2.2.1, ih (by omega) hm.2.2.2⟩

/-- Every write keeps the canonical form. -/
theorem Memory.wf_write {m : Memory} {addr : Nat} (v : Byte) (h : addr < 65536)
    (hm : Memory.wf m = true) : Memory.wf (Memory.write m addr v) = true :=
  Memory.wfFrom_write v h (Nat.zero_le _) hm

/-- Memory with nothing listed is canonical. -/
theorem Memory.wf_nil : Memory.wf [] = true := rfl

/-- ROM_WRITE_PROTECT is false on this hardware: every write takes effect. -/
theorem State.writeByte_eq (s : State) (addr : Word) (v : Byte) :
    s.writeByte addr v = { s with mem := Memory.write s.mem addr.toNat v } := rfl

theorem State.readByte_writeByte_same {s : State} (addr : Word) (v : Byte)
    (h : Memory.wf s.mem = true) : (s.writeByte addr v).readByte addr = v :=
  Memory.read_write_same _ _ h

theorem State.readByte_writeByte_other {s : State} {addr addr' : Word} (v : Byte)
    (hne : addr' ≠ addr) (h : Memory.wf s.mem = true) :
    (s.writeByte addr v).readByte addr' = s.readByte addr' :=
  Memory.read_write_other v (fun e => hne (BitVec.eq_of_toNat_eq e)) h

theorem State.wf_writeByte {s : State} (addr : Word) (v : Byte) (h : Memory.wf s.mem = true) :
    Memory.wf (s.writeByte addr v).mem = true :=
  Memory.wf_write v addr.isLt h

end Sys2Proof.Machine
end

