-- ==== Sys2Proof/Laws/State.lean ====
section
/-! SUPPORT. One lemma per field per update of the state, so that no proof unfolds a record update. -/

namespace Sys2Proof.Machine

variable (s : State)

/-! ### Byte order (`00_scope.md` R8) -/

@[simp] theorem hi_pair (h l : Byte) : hi (pair h l) = h := by
  simp only [hi, pair]; exact BitVec.eq_of_getLsbD_eq (fun i hi => by simp; grind)

@[simp] theorem lo_pair (h l : Byte) : lo (pair h l) = l := by
  simp only [lo, pair]; exact BitVec.eq_of_getLsbD_eq (fun i hi => by simp; grind)

@[simp] theorem pair_hi_lo (v : Word) : pair (hi v) (lo v) = v := by
  simp only [hi, lo, pair]; exact BitVec.eq_of_getLsbD_eq (fun i hi => by simp; grind)

/-! ### Register reads after register writes -/

@[simp] theorem State.reg_setReg_same (r : Reg) (v : Byte) : (s.setReg r v).reg r = v := by
  cases r <;> rfl

theorem State.reg_setReg_other {r r' : Reg} (v : Byte) (h : r' ≠ r) :
    (s.setReg r v).reg r' = s.reg r' := by
  cases r <;> cases r' <;> first | rfl | exact absurd rfl h

@[simp] theorem State.rp_setRp_same (p : Pair) (v : Word) : (s.setRp p v).rp p = v := by
  cases p <;> simp [State.setRp, State.rp]

/-! ### setReg -/

@[simp] theorem State.setReg_sp (r : Reg) (v : Byte) : (s.setReg r v).sp = s.sp := by cases r <;> rfl
@[simp] theorem State.setReg_pc (r : Reg) (v : Byte) : (s.setReg r v).pc = s.pc := by cases r <;> rfl
@[simp] theorem State.setReg_flags (r : Reg) (v : Byte) : (s.setReg r v).flags = s.flags := by cases r <;> rfl
@[simp] theorem State.setReg_inte (r : Reg) (v : Byte) : (s.setReg r v).inte = s.inte := by cases r <;> rfl
@[simp] theorem State.setReg_halted (r : Reg) (v : Byte) : (s.setReg r v).halted = s.halted := by cases r <;> rfl
@[simp] theorem State.setReg_status (r : Reg) (v : Byte) : (s.setReg r v).status = s.status := by cases r <;> rfl
@[simp] theorem State.setReg_mem (r : Reg) (v : Byte) : (s.setReg r v).mem = s.mem := by cases r <;> rfl
@[simp] theorem State.setReg_inp1 (r : Reg) (v : Byte) : (s.setReg r v).inp1 = s.inp1 := by cases r <;> rfl
@[simp] theorem State.setReg_inp2 (r : Reg) (v : Byte) : (s.setReg r v).inp2 = s.inp2 := by cases r <;> rfl
@[simp] theorem State.setReg_shift (r : Reg) (v : Byte) : (s.setReg r v).shift = s.shift := by cases r <;> rfl
@[simp] theorem State.setReg_shamt (r : Reg) (v : Byte) : (s.setReg r v).shamt = s.shamt := by cases r <;> rfl
@[simp] theorem State.setReg_paused (r : Reg) (v : Byte) : (s.setReg r v).paused = s.paused := by cases r <;> rfl
@[simp] theorem State.setReg_cyc (r : Reg) (v : Byte) : (s.setReg r v).cyc = s.cyc := by cases r <;> rfl
@[simp] theorem State.setReg_phase (r : Reg) (v : Byte) : (s.setReg r v).phase = s.phase := by cases r <;> rfl

/-! ### setRp -/

@[simp] theorem State.setRp_a (p : Pair) (v : Word) : (s.setRp p v).a = s.a := by cases p <;> rfl
@[simp] theorem State.setRp_pc (p : Pair) (v : Word) : (s.setRp p v).pc = s.pc := by cases p <;> rfl
@[simp] theorem State.setRp_flags (p : Pair) (v : Word) : (s.setRp p v).flags = s.flags := by cases p <;> rfl
@[simp] theorem State.setRp_inte (p : Pair) (v : Word) : (s.setRp p v).inte = s.inte := by cases p <;> rfl
@[simp] theorem State.setRp_halted (p : Pair) (v : Word) : (s.setRp p v).halted = s.halted := by cases p <;> rfl
@[simp] theorem State.setRp_status (p : Pair) (v : Word) : (s.setRp p v).status = s.status := by cases p <;> rfl
@[simp] theorem State.setRp_mem (p : Pair) (v : Word) : (s.setRp p v).mem = s.mem := by cases p <;> rfl
@[simp] theorem State.setRp_inp1 (p : Pair) (v : Word) : (s.setRp p v).inp1 = s.inp1 := by cases p <;> rfl
@[simp] theorem State.setRp_inp2 (p : Pair) (v : Word) : (s.setRp p v).inp2 = s.inp2 := by cases p <;> rfl
@[simp] theorem State.setRp_shift (p : Pair) (v : Word) : (s.setRp p v).shift = s.shift := by cases p <;> rfl
@[simp] theorem State.setRp_shamt (p : Pair) (v : Word) : (s.setRp p v).shamt = s.shamt := by cases p <;> rfl
@[simp] theorem State.setRp_paused (p : Pair) (v : Word) : (s.setRp p v).paused = s.paused := by cases p <;> rfl
@[simp] theorem State.setRp_cyc (p : Pair) (v : Word) : (s.setRp p v).cyc = s.cyc := by cases p <;> rfl
@[simp] theorem State.setRp_phase (p : Pair) (v : Word) : (s.setRp p v).phase = s.phase := by cases p <;> rfl

/-! ### setStackPair -/

@[simp] theorem State.setStackPair_sp (p : StackPair) (v : Word) : (s.setStackPair p v).sp = s.sp := by cases p <;> rfl
@[simp] theorem State.setStackPair_pc (p : StackPair) (v : Word) : (s.setStackPair p v).pc = s.pc := by cases p <;> rfl
@[simp] theorem State.setStackPair_inte (p : StackPair) (v : Word) : (s.setStackPair p v).inte = s.inte := by cases p <;> rfl
@[simp] theorem State.setStackPair_halted (p : StackPair) (v : Word) : (s.setStackPair p v).halted = s.halted := by cases p <;> rfl
@[simp] theorem State.setStackPair_status (p : StackPair) (v : Word) : (s.setStackPair p v).status = s.status := by cases p <;> rfl
@[simp] theorem State.setStackPair_mem (p : StackPair) (v : Word) : (s.setStackPair p v).mem = s.mem := by cases p <;> rfl
@[simp] theorem State.setStackPair_inp1 (p : StackPair) (v : Word) : (s.setStackPair p v).inp1 = s.inp1 := by cases p <;> rfl
@[simp] theorem State.setStackPair_inp2 (p : StackPair) (v : Word) : (s.setStackPair p v).inp2 = s.inp2 := by cases p <;> rfl
@[simp] theorem State.setStackPair_shift (p : StackPair) (v : Word) : (s.setStackPair p v).shift = s.shift := by cases p <;> rfl
@[simp] theorem State.setStackPair_shamt (p : StackPair) (v : Word) : (s.setStackPair p v).shamt = s.shamt := by cases p <;> rfl
@[simp] theorem State.setStackPair_paused (p : StackPair) (v : Word) : (s.setStackPair p v).paused = s.paused := by cases p <;> rfl
@[simp] theorem State.setStackPair_cyc (p : StackPair) (v : Word) : (s.setStackPair p v).cyc = s.cyc := by cases p <;> rfl
@[simp] theorem State.setStackPair_phase (p : StackPair) (v : Word) : (s.setStackPair p v).phase = s.phase := by cases p <;> rfl

/-! ### setFlags -/

@[simp] theorem State.setFlags_a (f : Flags) : (s.setFlags f).a = s.a := rfl
@[simp] theorem State.setFlags_b (f : Flags) : (s.setFlags f).b = s.b := rfl
@[simp] theorem State.setFlags_c (f : Flags) : (s.setFlags f).c = s.c := rfl
@[simp] theorem State.setFlags_d (f : Flags) : (s.setFlags f).d = s.d := rfl
@[simp] theorem State.setFlags_e (f : Flags) : (s.setFlags f).e = s.e := rfl
@[simp] theorem State.setFlags_h (f : Flags) : (s.setFlags f).h = s.h := rfl
@[simp] theorem State.setFlags_l (f : Flags) : (s.setFlags f).l = s.l := rfl
@[simp] theorem State.setFlags_sp (f : Flags) : (s.setFlags f).sp = s.sp := rfl
@[simp] theorem State.setFlags_pc (f : Flags) : (s.setFlags f).pc = s.pc := rfl
@[simp] theorem State.setFlags_flags (f : Flags) : (s.setFlags f).flags = f := rfl
@[simp] theorem State.setFlags_inte (f : Flags) : (s.setFlags f).inte = s.inte := rfl
@[simp] theorem State.setFlags_halted (f : Flags) : (s.setFlags f).halted = s.halted := rfl
@[simp] theorem State.setFlags_status (f : Flags) : (s.setFlags f).status = s.status := rfl
@[simp] theorem State.setFlags_mem (f : Flags) : (s.setFlags f).mem = s.mem := rfl
@[simp] theorem State.setFlags_inp1 (f : Flags) : (s.setFlags f).inp1 = s.inp1 := rfl
@[simp] theorem State.setFlags_inp2 (f : Flags) : (s.setFlags f).inp2 = s.inp2 := rfl
@[simp] theorem State.setFlags_shift (f : Flags) : (s.setFlags f).shift = s.shift := rfl
@[simp] theorem State.setFlags_shamt (f : Flags) : (s.setFlags f).shamt = s.shamt := rfl
@[simp] theorem State.setFlags_paused (f : Flags) : (s.setFlags f).paused = s.paused := rfl
@[simp] theorem State.setFlags_cyc (f : Flags) : (s.setFlags f).cyc = s.cyc := rfl
@[simp] theorem State.setFlags_phase (f : Flags) : (s.setFlags f).phase = s.phase := rfl

/-! ### setCy -/

@[simp] theorem State.setCy_a (cy : Bool) : (s.setCy cy).a = s.a := rfl
@[simp] theorem State.setCy_b (cy : Bool) : (s.setCy cy).b = s.b := rfl
@[simp] theorem State.setCy_c (cy : Bool) : (s.setCy cy).c = s.c := rfl
@[simp] theorem State.setCy_d (cy : Bool) : (s.setCy cy).d = s.d := rfl
@[simp] theorem State.setCy_e (cy : Bool) : (s.setCy cy).e = s.e := rfl
@[simp] theorem State.setCy_h (cy : Bool) : (s.setCy cy).h = s.h := rfl
@[simp] theorem State.setCy_l (cy : Bool) : (s.setCy cy).l = s.l := rfl
@[simp] theorem State.setCy_sp (cy : Bool) : (s.setCy cy).sp = s.sp := rfl
@[simp] theorem State.setCy_pc (cy : Bool) : (s.setCy cy).pc = s.pc := rfl
@[simp] theorem State.setCy_flags (cy : Bool) : (s.setCy cy).flags = { s.flags with cy := cy } := rfl
@[simp] theorem State.setCy_inte (cy : Bool) : (s.setCy cy).inte = s.inte := rfl
@[simp] theorem State.setCy_halted (cy : Bool) : (s.setCy cy).halted = s.halted := rfl
@[simp] theorem State.setCy_status (cy : Bool) : (s.setCy cy).status = s.status := rfl
@[simp] theorem State.setCy_mem (cy : Bool) : (s.setCy cy).mem = s.mem := rfl
@[simp] theorem State.setCy_inp1 (cy : Bool) : (s.setCy cy).inp1 = s.inp1 := rfl
@[simp] theorem State.setCy_inp2 (cy : Bool) : (s.setCy cy).inp2 = s.inp2 := rfl
@[simp] theorem State.setCy_shift (cy : Bool) : (s.setCy cy).shift = s.shift := rfl
@[simp] theorem State.setCy_shamt (cy : Bool) : (s.setCy cy).shamt = s.shamt := rfl
@[simp] theorem State.setCy_paused (cy : Bool) : (s.setCy cy).paused = s.paused := rfl
@[simp] theorem State.setCy_cyc (cy : Bool) : (s.setCy cy).cyc = s.cyc := rfl
@[simp] theorem State.setCy_phase (cy : Bool) : (s.setCy cy).phase = s.phase := rfl

/-! ### writeByte -/

@[simp] theorem State.writeByte_a (addr : Word) (v : Byte) : (s.writeByte addr v).a = s.a := rfl
@[simp] theorem State.writeByte_b (addr : Word) (v : Byte) : (s.writeByte addr v).b = s.b := rfl
@[simp] theorem State.writeByte_c (addr : Word) (v : Byte) : (s.writeByte addr v).c = s.c := rfl
@[simp] theorem State.writeByte_d (addr : Word) (v : Byte) : (s.writeByte addr v).d = s.d := rfl
@[simp] theorem State.writeByte_e (addr : Word) (v : Byte) : (s.writeByte addr v).e = s.e := rfl
@[simp] theorem State.writeByte_h (addr : Word) (v : Byte) : (s.writeByte addr v).h = s.h := rfl
@[simp] theorem State.writeByte_l (addr : Word) (v : Byte) : (s.writeByte addr v).l = s.l := rfl
@[simp] theorem State.writeByte_sp (addr : Word) (v : Byte) : (s.writeByte addr v).sp = s.sp := rfl
@[simp] theorem State.writeByte_pc (addr : Word) (v : Byte) : (s.writeByte addr v).pc = s.pc := rfl
@[simp] theorem State.writeByte_flags (addr : Word) (v : Byte) : (s.writeByte addr v).flags = s.flags := rfl
@[simp] theorem State.writeByte_inte (addr : Word) (v : Byte) : (s.writeByte addr v).inte = s.inte := rfl
@[simp] theorem State.writeByte_halted (addr : Word) (v : Byte) : (s.writeByte addr v).halted = s.halted := rfl
@[simp] theorem State.writeByte_status (addr : Word) (v : Byte) : (s.writeByte addr v).status = s.status := rfl
@[simp] theorem State.writeByte_mem (addr : Word) (v : Byte) : (s.writeByte addr v).mem = Memory.write s.mem addr.toNat v := rfl
@[simp] theorem State.writeByte_inp1 (addr : Word) (v : Byte) : (s.writeByte addr v).inp1 = s.inp1 := rfl
@[simp] theorem State.writeByte_inp2 (addr : Word) (v : Byte) : (s.writeByte addr v).inp2 = s.inp2 := rfl
@[simp] theorem State.writeByte_shift (addr : Word) (v : Byte) : (s.writeByte addr v).shift = s.shift := rfl
@[simp] theorem State.writeByte_shamt (addr : Word) (v : Byte) : (s.writeByte addr v).shamt = s.shamt := rfl
@[simp] theorem State.writeByte_paused (addr : Word) (v : Byte) : (s.writeByte addr v).paused = s.paused := rfl
@[simp] theorem State.writeByte_cyc (addr : Word) (v : Byte) : (s.writeByte addr v).cyc = s.cyc := rfl
@[simp] theorem State.writeByte_phase (addr : Word) (v : Byte) : (s.writeByte addr v).phase = s.phase := rfl

/-! ### push16 -/

@[simp] theorem State.push16_a (v : Word) : (s.push16 v).a = s.a := rfl
@[simp] theorem State.push16_b (v : Word) : (s.push16 v).b = s.b := rfl
@[simp] theorem State.push16_c (v : Word) : (s.push16 v).c = s.c := rfl
@[simp] theorem State.push16_d (v : Word) : (s.push16 v).d = s.d := rfl
@[simp] theorem State.push16_e (v : Word) : (s.push16 v).e = s.e := rfl
@[simp] theorem State.push16_h (v : Word) : (s.push16 v).h = s.h := rfl
@[simp] theorem State.push16_l (v : Word) : (s.push16 v).l = s.l := rfl
@[simp] theorem State.push16_sp (v : Word) : (s.push16 v).sp = s.sp - 2 := rfl
@[simp] theorem State.push16_pc (v : Word) : (s.push16 v).pc = s.pc := rfl
@[simp] theorem State.push16_flags (v : Word) : (s.push16 v).flags = s.flags := rfl
@[simp] theorem State.push16_inte (v : Word) : (s.push16 v).inte = s.inte := rfl
@[simp] theorem State.push16_halted (v : Word) : (s.push16 v).halted = s.halted := rfl
@[simp] theorem State.push16_status (v : Word) : (s.push16 v).status = s.status := rfl
@[simp] theorem State.push16_mem (v : Word) : (s.push16 v).mem = Memory.write (Memory.write s.mem (s.sp - 1).toNat (hi v)) (s.sp - 2).toNat (lo v) := rfl
@[simp] theorem State.push16_inp1 (v : Word) : (s.push16 v).inp1 = s.inp1 := rfl
@[simp] theorem State.push16_inp2 (v : Word) : (s.push16 v).inp2 = s.inp2 := rfl
@[simp] theorem State.push16_shift (v : Word) : (s.push16 v).shift = s.shift := rfl
@[simp] theorem State.push16_shamt (v : Word) : (s.push16 v).shamt = s.shamt := rfl
@[simp] theorem State.push16_paused (v : Word) : (s.push16 v).paused = s.paused := rfl
@[simp] theorem State.push16_cyc (v : Word) : (s.push16 v).cyc = s.cyc := rfl
@[simp] theorem State.push16_phase (v : Word) : (s.push16 v).phase = s.phase := rfl

/-! ### dropTop -/

@[simp] theorem State.dropTop_a : (s.dropTop).a = s.a := rfl
@[simp] theorem State.dropTop_b : (s.dropTop).b = s.b := rfl
@[simp] theorem State.dropTop_c : (s.dropTop).c = s.c := rfl
@[simp] theorem State.dropTop_d : (s.dropTop).d = s.d := rfl
@[simp] theorem State.dropTop_e : (s.dropTop).e = s.e := rfl
@[simp] theorem State.dropTop_h : (s.dropTop).h = s.h := rfl
@[simp] theorem State.dropTop_l : (s.dropTop).l = s.l := rfl
@[simp] theorem State.dropTop_sp : (s.dropTop).sp = s.sp + 2 := rfl
@[simp] theorem State.dropTop_pc : (s.dropTop).pc = s.pc := rfl
@[simp] theorem State.dropTop_flags : (s.dropTop).flags = s.flags := rfl
@[simp] theorem State.dropTop_inte : (s.dropTop).inte = s.inte := rfl
@[simp] theorem State.dropTop_halted : (s.dropTop).halted = s.halted := rfl
@[simp] theorem State.dropTop_status : (s.dropTop).status = s.status := rfl
@[simp] theorem State.dropTop_mem : (s.dropTop).mem = s.mem := rfl
@[simp] theorem State.dropTop_inp1 : (s.dropTop).inp1 = s.inp1 := rfl
@[simp] theorem State.dropTop_inp2 : (s.dropTop).inp2 = s.inp2 := rfl
@[simp] theorem State.dropTop_shift : (s.dropTop).shift = s.shift := rfl
@[simp] theorem State.dropTop_shamt : (s.dropTop).shamt = s.shamt := rfl
@[simp] theorem State.dropTop_paused : (s.dropTop).paused = s.paused := rfl
@[simp] theorem State.dropTop_cyc : (s.dropTop).cyc = s.cyc := rfl
@[simp] theorem State.dropTop_phase : (s.dropTop).phase = s.phase := rfl

/-! ### retire -/

@[simp] theorem State.retire_a (len : Word) (cycles : Nat) : (s.retire len cycles).a = s.a := rfl
@[simp] theorem State.retire_b (len : Word) (cycles : Nat) : (s.retire len cycles).b = s.b := rfl
@[simp] theorem State.retire_c (len : Word) (cycles : Nat) : (s.retire len cycles).c = s.c := rfl
@[simp] theorem State.retire_d (len : Word) (cycles : Nat) : (s.retire len cycles).d = s.d := rfl
@[simp] theorem State.retire_e (len : Word) (cycles : Nat) : (s.retire len cycles).e = s.e := rfl
@[simp] theorem State.retire_h (len : Word) (cycles : Nat) : (s.retire len cycles).h = s.h := rfl
@[simp] theorem State.retire_l (len : Word) (cycles : Nat) : (s.retire len cycles).l = s.l := rfl
@[simp] theorem State.retire_sp (len : Word) (cycles : Nat) : (s.retire len cycles).sp = s.sp := rfl
@[simp] theorem State.retire_pc (len : Word) (cycles : Nat) : (s.retire len cycles).pc = s.pc + len := rfl
@[simp] theorem State.retire_flags (len : Word) (cycles : Nat) : (s.retire len cycles).flags = s.flags := rfl
@[simp] theorem State.retire_inte (len : Word) (cycles : Nat) : (s.retire len cycles).inte = s.inte := rfl
@[simp] theorem State.retire_halted (len : Word) (cycles : Nat) : (s.retire len cycles).halted = s.halted := rfl
@[simp] theorem State.retire_status (len : Word) (cycles : Nat) : (s.retire len cycles).status = s.status := rfl
@[simp] theorem State.retire_mem (len : Word) (cycles : Nat) : (s.retire len cycles).mem = s.mem := rfl
@[simp] theorem State.retire_inp1 (len : Word) (cycles : Nat) : (s.retire len cycles).inp1 = s.inp1 := rfl
@[simp] theorem State.retire_inp2 (len : Word) (cycles : Nat) : (s.retire len cycles).inp2 = s.inp2 := rfl
@[simp] theorem State.retire_shift (len : Word) (cycles : Nat) : (s.retire len cycles).shift = s.shift := rfl
@[simp] theorem State.retire_shamt (len : Word) (cycles : Nat) : (s.retire len cycles).shamt = s.shamt := rfl
@[simp] theorem State.retire_paused (len : Word) (cycles : Nat) : (s.retire len cycles).paused = s.paused := rfl
@[simp] theorem State.retire_cyc (len : Word) (cycles : Nat) : (s.retire len cycles).cyc = s.cyc + cycles := rfl
@[simp] theorem State.retire_phase (len : Word) (cycles : Nat) : (s.retire len cycles).phase = s.phase := rfl

/-! ### jump -/

@[simp] theorem State.jump_a (target : Word) (cycles : Nat) : (s.jump target cycles).a = s.a := rfl
@[simp] theorem State.jump_b (target : Word) (cycles : Nat) : (s.jump target cycles).b = s.b := rfl
@[simp] theorem State.jump_c (target : Word) (cycles : Nat) : (s.jump target cycles).c = s.c := rfl
@[simp] theorem State.jump_d (target : Word) (cycles : Nat) : (s.jump target cycles).d = s.d := rfl
@[simp] theorem State.jump_e (target : Word) (cycles : Nat) : (s.jump target cycles).e = s.e := rfl
@[simp] theorem State.jump_h (target : Word) (cycles : Nat) : (s.jump target cycles).h = s.h := rfl
@[simp] theorem State.jump_l (target : Word) (cycles : Nat) : (s.jump target cycles).l = s.l := rfl
@[simp] theorem State.jump_sp (target : Word) (cycles : Nat) : (s.jump target cycles).sp = s.sp := rfl
@[simp] theorem State.jump_pc (target : Word) (cycles : Nat) : (s.jump target cycles).pc = target := rfl
@[simp] theorem State.jump_flags (target : Word) (cycles : Nat) : (s.jump target cycles).flags = s.flags := rfl
@[simp] theorem State.jump_inte (target : Word) (cycles : Nat) : (s.jump target cycles).inte = s.inte := rfl
@[simp] theorem State.jump_halted (target : Word) (cycles : Nat) : (s.jump target cycles).halted = s.halted := rfl
@[simp] theorem State.jump_status (target : Word) (cycles : Nat) : (s.jump target cycles).status = s.status := rfl
@[simp] theorem State.jump_mem (target : Word) (cycles : Nat) : (s.jump target cycles).mem = s.mem := rfl
@[simp] theorem State.jump_inp1 (target : Word) (cycles : Nat) : (s.jump target cycles).inp1 = s.inp1 := rfl
@[simp] theorem State.jump_inp2 (target : Word) (cycles : Nat) : (s.jump target cycles).inp2 = s.inp2 := rfl
@[simp] theorem State.jump_shift (target : Word) (cycles : Nat) : (s.jump target cycles).shift = s.shift := rfl
@[simp] theorem State.jump_shamt (target : Word) (cycles : Nat) : (s.jump target cycles).shamt = s.shamt := rfl
@[simp] theorem State.jump_paused (target : Word) (cycles : Nat) : (s.jump target cycles).paused = s.paused := rfl
@[simp] theorem State.jump_cyc (target : Word) (cycles : Nat) : (s.jump target cycles).cyc = s.cyc + cycles := rfl
@[simp] theorem State.jump_phase (target : Word) (cycles : Nat) : (s.jump target cycles).phase = s.phase := rfl

/-! ### raiseUnsupported -/

@[simp] theorem State.raiseUnsupported_a (opcode : Byte) : (s.raiseUnsupported opcode).a = s.a := rfl
@[simp] theorem State.raiseUnsupported_b (opcode : Byte) : (s.raiseUnsupported opcode).b = s.b := rfl
@[simp] theorem State.raiseUnsupported_c (opcode : Byte) : (s.raiseUnsupported opcode).c = s.c := rfl
@[simp] theorem State.raiseUnsupported_d (opcode : Byte) : (s.raiseUnsupported opcode).d = s.d := rfl
@[simp] theorem State.raiseUnsupported_e (opcode : Byte) : (s.raiseUnsupported opcode).e = s.e := rfl
@[simp] theorem State.raiseUnsupported_h (opcode : Byte) : (s.raiseUnsupported opcode).h = s.h := rfl
@[simp] theorem State.raiseUnsupported_l (opcode : Byte) : (s.raiseUnsupported opcode).l = s.l := rfl
@[simp] theorem State.raiseUnsupported_sp (opcode : Byte) : (s.raiseUnsupported opcode).sp = s.sp := rfl
@[simp] theorem State.raiseUnsupported_pc (opcode : Byte) : (s.raiseUnsupported opcode).pc = s.pc := rfl
@[simp] theorem State.raiseUnsupported_flags (opcode : Byte) : (s.raiseUnsupported opcode).flags = s.flags := rfl
@[simp] theorem State.raiseUnsupported_inte (opcode : Byte) : (s.raiseUnsupported opcode).inte = s.inte := rfl
@[simp] theorem State.raiseUnsupported_halted (opcode : Byte) : (s.raiseUnsupported opcode).halted = s.halted := rfl
@[simp] theorem State.raiseUnsupported_status (opcode : Byte) : (s.raiseUnsupported opcode).status = .faulted opcode s.pc := rfl
@[simp] theorem State.raiseUnsupported_mem (opcode : Byte) : (s.raiseUnsupported opcode).mem = s.mem := rfl
@[simp] theorem State.raiseUnsupported_inp1 (opcode : Byte) : (s.raiseUnsupported opcode).inp1 = s.inp1 := rfl
@[simp] theorem State.raiseUnsupported_inp2 (opcode : Byte) : (s.raiseUnsupported opcode).inp2 = s.inp2 := rfl
@[simp] theorem State.raiseUnsupported_shift (opcode : Byte) : (s.raiseUnsupported opcode).shift = s.shift := rfl
@[simp] theorem State.raiseUnsupported_shamt (opcode : Byte) : (s.raiseUnsupported opcode).shamt = s.shamt := rfl
@[simp] theorem State.raiseUnsupported_paused (opcode : Byte) : (s.raiseUnsupported opcode).paused = s.paused := rfl
@[simp] theorem State.raiseUnsupported_cyc (opcode : Byte) : (s.raiseUnsupported opcode).cyc = s.cyc := rfl
@[simp] theorem State.raiseUnsupported_phase (opcode : Byte) : (s.raiseUnsupported opcode).phase = s.phase := rfl

/-! ### acceptInterrupt -/

@[simp] theorem State.acceptInterrupt_a (n : Fin 8) : (s.acceptInterrupt n).a = s.a := rfl
@[simp] theorem State.acceptInterrupt_b (n : Fin 8) : (s.acceptInterrupt n).b = s.b := rfl
@[simp] theorem State.acceptInterrupt_c (n : Fin 8) : (s.acceptInterrupt n).c = s.c := rfl
@[simp] theorem State.acceptInterrupt_d (n : Fin 8) : (s.acceptInterrupt n).d = s.d := rfl
@[simp] theorem State.acceptInterrupt_e (n : Fin 8) : (s.acceptInterrupt n).e = s.e := rfl
@[simp] theorem State.acceptInterrupt_h (n : Fin 8) : (s.acceptInterrupt n).h = s.h := rfl
@[simp] theorem State.acceptInterrupt_l (n : Fin 8) : (s.acceptInterrupt n).l = s.l := rfl
@[simp] theorem State.acceptInterrupt_sp (n : Fin 8) : (s.acceptInterrupt n).sp = s.sp - 2 := rfl
@[simp] theorem State.acceptInterrupt_pc (n : Fin 8) : (s.acceptInterrupt n).pc = restartAddress n := rfl
@[simp] theorem State.acceptInterrupt_flags (n : Fin 8) : (s.acceptInterrupt n).flags = s.flags := rfl
@[simp] theorem State.acceptInterrupt_inte (n : Fin 8) : (s.acceptInterrupt n).inte = false := rfl
@[simp] theorem State.acceptInterrupt_halted (n : Fin 8) : (s.acceptInterrupt n).halted = false := rfl
@[simp] theorem State.acceptInterrupt_status (n : Fin 8) : (s.acceptInterrupt n).status = s.status := rfl
@[simp] theorem State.acceptInterrupt_mem (n : Fin 8) : (s.acceptInterrupt n).mem = (s.push16 s.pc).mem := rfl
@[simp] theorem State.acceptInterrupt_inp1 (n : Fin 8) : (s.acceptInterrupt n).inp1 = s.inp1 := rfl
@[simp] theorem State.acceptInterrupt_inp2 (n : Fin 8) : (s.acceptInterrupt n).inp2 = s.inp2 := rfl
@[simp] theorem State.acceptInterrupt_shift (n : Fin 8) : (s.acceptInterrupt n).shift = s.shift := rfl
@[simp] theorem State.acceptInterrupt_shamt (n : Fin 8) : (s.acceptInterrupt n).shamt = s.shamt := rfl
@[simp] theorem State.acceptInterrupt_paused (n : Fin 8) : (s.acceptInterrupt n).paused = s.paused := rfl
@[simp] theorem State.acceptInterrupt_cyc (n : Fin 8) : (s.acceptInterrupt n).cyc = s.cyc := rfl
@[simp] theorem State.acceptInterrupt_phase (n : Fin 8) : (s.acceptInterrupt n).phase = s.phase := rfl

/-! ### startFrame -/

@[simp] theorem State.startFrame_a : (s.startFrame).a = s.a := rfl
@[simp] theorem State.startFrame_b : (s.startFrame).b = s.b := rfl
@[simp] theorem State.startFrame_c : (s.startFrame).c = s.c := rfl
@[simp] theorem State.startFrame_d : (s.startFrame).d = s.d := rfl
@[simp] theorem State.startFrame_e : (s.startFrame).e = s.e := rfl
@[simp] theorem State.startFrame_h : (s.startFrame).h = s.h := rfl
@[simp] theorem State.startFrame_l : (s.startFrame).l = s.l := rfl
@[simp] theorem State.startFrame_sp : (s.startFrame).sp = s.sp := rfl
@[simp] theorem State.startFrame_pc : (s.startFrame).pc = s.pc := rfl
@[simp] theorem State.startFrame_flags : (s.startFrame).flags = s.flags := rfl
@[simp] theorem State.startFrame_inte : (s.startFrame).inte = s.inte := rfl
@[simp] theorem State.startFrame_halted : (s.startFrame).halted = s.halted := rfl
@[simp] theorem State.startFrame_status : (s.startFrame).status = s.status := rfl
@[simp] theorem State.startFrame_mem : (s.startFrame).mem = s.mem := rfl
@[simp] theorem State.startFrame_inp1 : (s.startFrame).inp1 = s.inp1 := rfl
@[simp] theorem State.startFrame_inp2 : (s.startFrame).inp2 = s.inp2 := rfl
@[simp] theorem State.startFrame_shift : (s.startFrame).shift = s.shift := rfl
@[simp] theorem State.startFrame_shamt : (s.startFrame).shamt = s.shamt := rfl
@[simp] theorem State.startFrame_paused : (s.startFrame).paused = s.paused := rfl
@[simp] theorem State.startFrame_cyc : (s.startFrame).cyc = 0 := rfl
@[simp] theorem State.startFrame_phase : (s.startFrame).phase = .firstHalf := rfl

end Sys2Proof.Machine
end

