-- ==== Sys2Proof/Laws/Ops.lean ====
section
/-! SUPPORT. What each shared operation can do, said once: the stack, ports, interrupts, the host's
moves, `executeOne` and the scheduler's step. -/

namespace Sys2Proof.Machine

/-! ### The stack -/

theorem State.wf_push16 {s : State} (v : Word) (h : Memory.wf s.mem = true) :
    Memory.wf (s.push16 v).mem = true :=
  Memory.wf_write _ (BitVec.isLt _) (Memory.wf_write _ (BitVec.isLt _) h)

theorem sub_one_ne_sub_two (sp : Word) : sp - 1 ≠ sp - 2 := by
  bv_omega

/-- Memory after a push. -/
theorem State.push16_readByte (s : State) (v addr : Word) :
    (s.push16 v).readByte addr = Memory.read (Memory.write (Memory.write s.mem (s.sp - 1).toNat (hi v))
      (s.sp - 2).toNat (lo v)) addr.toNat := rfl

/-- The high byte of a push is at SP - 1. -/
theorem State.push16_high {s : State} (v : Word) (h : Memory.wf s.mem = true) :
    (s.push16 v).readByte (s.sp - 1) = hi v := by
  rw [State.push16_readByte, Memory.read_write_other _ (fun e => sub_one_ne_sub_two s.sp (BitVec.eq_of_toNat_eq e))
    (Memory.wf_write _ (BitVec.isLt _) h), Memory.read_write_same _ _ h]

/-- The low byte of a push is at SP - 2. -/
theorem State.push16_low {s : State} (v : Word) (h : Memory.wf s.mem = true) :
    (s.push16 v).readByte (s.sp - 2) = lo v := by
  rw [State.push16_readByte, Memory.read_write_same _ _ (Memory.wf_write _ (BitVec.isLt _) h)]

/-- A push leaves every other byte alone. -/
theorem State.push16_other {s : State} (v : Word) {addr : Word} (h : Memory.wf s.mem = true)
    (h1 : addr ≠ s.sp - 1) (h2 : addr ≠ s.sp - 2) :
    (s.push16 v).readByte addr = s.readByte addr := by
  rw [State.push16_readByte, Memory.read_write_other _ (fun e => h2 (BitVec.eq_of_toNat_eq e))
    (Memory.wf_write _ (BitVec.isLt _) h),
    Memory.read_write_other _ (fun e => h1 (BitVec.eq_of_toNat_eq e)) h]
  rfl

theorem State.wf_writeWord {s : State} (addr v : Word) (h : Memory.wf s.mem = true) :
    Memory.wf (s.writeWord addr v).mem = true :=
  State.wf_writeByte (s := s.writeByte addr (lo v)) _ _ (State.wf_writeByte _ _ h)

/-! ### Ports -/

/-- The four cases of a port read of this hardware. -/
theorem State.readPort_eq (s : State) (n : Byte) :
    s.readPort n = if n = 1 then s.inp1 else if n = 2 then s.inp2
      else if n = 3 then s.shiftResult else 0x00 := rfl

/-- The three cases of a port write of this hardware. -/
theorem State.writePort_eq (s : State) (n v : Byte) :
    s.writePort n v = if n = 2 then { s with shamt := v.setWidth 3 }
      else if n = 4 then { s with shift := pair v (hi s.shift) } else s := rfl

/-! ### Interrupts -/

/-- An interrupt is accepted or dropped. -/
theorem State.interrupt_cases (s : State) (n : Fin 8) :
    (s.inte = true ∧ s.interrupt n = s.acceptInterrupt n) ∨
    (s.inte = false ∧ s.interrupt n = s) := by
  unfold State.interrupt
  cases s.inte <;> simp

/-- On this hardware an offer costs no cycles: it is the interrupt itself. -/
theorem State.offerInterrupt_eq (s : State) (n : Fin 8) :
    s.offerInterrupt Config.hardware n = s.interrupt n := by
  unfold State.offerInterrupt State.interrupt
  cases h : s.inte <;> rfl

/-! ### The CPU's step and the scheduler's step -/

/-- What an `execute_one` call that answers a next state did. -/
theorem executeOne_cases {s t : State} (h : executeOne s = .next t) :
    s.status = .running ∧
    ((s.halted = true ∧ t = { s with cyc := s.cyc + 4 }) ∨
     (s.halted = false ∧ exec s.fetch s = .next t)) := by
  unfold executeOne at h
  cases hs : s.status with
  | faulted opcode pc => simp [hs] at h
  | running =>
    refine ⟨rfl, ?_⟩
    simp only [hs] at h
    cases hh : s.halted with
    | true =>
      simp only [hh, if_true, Host.Outcome.next.injEq] at h
      exact .inl ⟨rfl, h.symm⟩
    | false =>
      simp only [hh, Bool.false_eq_true, if_false] at h
      exact .inr ⟨rfl, h⟩

/-- What a step of the scheduler that answers a next state did: a frozen frame, an `execute_one` call
below a threshold, or the offer of vector 1 or 2. -/
theorem schedulerStep_cases {cfg : Config} {s t : State} (h : schedulerStep cfg s = .next t) :
    s.status = .running ∧
    ((s.phase = .betweenFrames ∧ s.frozen cfg = true ∧ t = s) ∨
     (s.phase = .betweenFrames ∧ s.frozen cfg = false ∧ firstHalfTurn cfg s.startFrame = .next t) ∨
     (s.phase = .firstHalf ∧ firstHalfTurn cfg s = .next t) ∨
     (s.phase = .secondHalf ∧ secondHalfTurn cfg s = .next t)) := by
  unfold schedulerStep at h
  cases hs : s.status with
  | faulted opcode pc => simp [hs] at h
  | running =>
    refine ⟨rfl, ?_⟩
    cases hp : s.phase with
    | betweenFrames =>
      cases hf : s.frozen cfg with
      | true => simp_all
      | false => simp_all
    | firstHalf => simp_all
    | secondHalf => simp_all

/-- What a turn of the first loop did. -/
theorem firstHalfTurn_cases {cfg : Config} {s t : State} (h : firstHalfTurn cfg s = .next t) :
    (s.cyc < cfg.halfFrameCycles ∧ executeOne s = .next t) ∨
    (cfg.halfFrameCycles ≤ s.cyc ∧ t = { s.offerInterrupt cfg 1 with phase := .secondHalf }) := by
  unfold firstHalfTurn at h
  split at h
  · exact .inl ⟨by assumption, h⟩
  · simp only [Host.Outcome.next.injEq] at h
    exact .inr ⟨by omega, h.symm⟩

/-- What a turn of the second loop did. -/
theorem secondHalfTurn_cases {cfg : Config} {s t : State} (h : secondHalfTurn cfg s = .next t) :
    (s.cyc < cfg.frameCycles ∧ executeOne s = .next t) ∨
    (cfg.frameCycles ≤ s.cyc ∧ t = { s.offerInterrupt cfg 2 with phase := .betweenFrames }) := by
  unfold secondHalfTurn at h
  split at h
  · exact .inl ⟨by assumption, h⟩
  · simp only [Host.Outcome.next.injEq] at h
    exact .inr ⟨by omega, h.symm⟩

/-! ### The host's moves -/

/-- Loading an image that fits keeps the canonical form. -/
theorem Memory.wf_load : ∀ (bytes : List Byte) {m : Memory} {atAddr : Nat},
    atAddr + bytes.length ≤ 65536 → Memory.wf m = true → Memory.wf (Memory.load m atAddr bytes) = true
  | [], _, _, _, hm => hm
  | v :: vs, m, atAddr, hfit, hm => by
    simp only [List.length_cons] at hfit
    exact Memory.wf_load vs (by omega) (Memory.wf_write v (by omega) hm)

end Sys2Proof.Machine
end

