-- ==== Sys2Proof/Tests/Slice0.lean ====
section
/-! SUPPORT. Tests. Every expected value is a vector of `95_test_vectors.md` (the T number in the name) or
the Example line of the rule in the name; encodings are the bytes the spec writes for them. -/

namespace Sys2Proof.Machine.Tests

/-! ### Helpers -/

/-- A flag bit as the spec writes it. -/
def bit (n : Nat) : Bool := n == 1

/-- The flags in the spec's order S Z AC P CY. -/
def bits (s z ac p cy : Nat) : Flags := ⟨bit s, bit z, bit ac, bit p, bit cy⟩

/-- The start state of `95_test_vectors.md`: everything 0, pc = 0x0100. -/
def start : State := { State.reset with pc := 0x0100 }

/-- A state with bytes stored from an address up. -/
def put (s : State) (addr : Nat) (bytes : List Byte) : State :=
  { s with mem := Memory.load s.mem addr bytes }

/-- One step of the machine from `s` with `bytes` at its PC ends in a next state with the property. -/
def ends (s : State) (bytes : List Byte) (ok : State → Bool) : Bool :=
  match step (put s s.pc.toNat bytes) with
  | .next t => ok t
  | .fault _ => false
  | .refused _ => false

/-- The bytes decode to the instruction, with nothing left over. -/
def reads (bytes : List Byte) (i : Instr) : Bool :=
  match decode bytes with
  | .ok (j, rest) => j == i && rest.isEmpty
  | .error _ => false

/-! ### Well-formedness: the check refuses each undocumented row and accepts a documented one -/

theorem test_wellFormed_refuses : ∀ i ∈ ([.undoc08, .undoc10, .undoc18, .undoc20, .undoc28, .undoc30,
    .undoc38, .undocCB, .undocD9, .undocDD, .undocED, .undocFD] : List Instr), ¬ i.WellFormed := by
  decide

theorem test_wellFormed_accepts : (Instr.mviM 0x3C).WellFormed := by decide

/-! ### Decoding: words written out from the spec's encodings -/

theorem test_decode_mov_a_e : reads [0b01111011] (.movAE) = true := by decide -- R120
theorem test_decode_mov_h_m : reads [0b01100110] (.movHM) = true := by decide -- R121
theorem test_decode_mov_m_a : reads [0b01110111] (.movMA) = true := by decide -- R122
theorem test_decode_mvi_a : reads [0b00111110, 0x01] (.mviA 0x01) = true := by decide -- R123
theorem test_decode_lxi_h : reads [0b00100001, 0x03, 0x01] (.lxiH 0x0103) = true := by decide -- R125
theorem test_decode_sta : reads [0b00110010, 0xB3, 0x05] (.sta 0x05B3) = true := by decide -- R127
theorem test_decode_ldax_d : reads [0b00011010] (.ldaxD) = true := by decide -- R130
theorem test_decode_add_d : reads [0b10000010] (.addD) = true := by decide -- R142
theorem test_decode_sbb_l : reads [0b10011101] (.sbbL) = true := by decide -- R151
theorem test_decode_adi : reads [0b11000110, 0x42] (.adi 0x42) = true := by decide -- R144
theorem test_decode_inr_c : reads [0b00001100] (.inrC) = true := by decide -- R154
theorem test_decode_dcx_h : reads [0b00101011] (.dcxH) = true := by decide -- R159
theorem test_decode_dad_sp : reads [0b00111001] (.dadSp) = true := by decide -- R160
theorem test_decode_cmp_e : reads [0b10111011] (.cmpE) = true := by decide -- R180
theorem test_decode_cpi : reads [0b11111110, 0x40] (.cpi 0x40) = true := by decide -- R182
theorem test_decode_rar : reads [0b00011111] (.rar) = true := by decide -- R193
theorem test_decode_jnz : reads [0b11000010, 0x00, 0x20] (.jnz 0x2000) = true := by decide -- R202
theorem test_decode_call : reads [0b11001101, 0x32, 0x1A] (.call 0x1A32) = true := by decide -- R210
theorem test_decode_cm : reads [0b11111100, 0x00, 0x02] (.cm 0x0200) = true := by decide -- R218
theorem test_decode_rpe : reads [0b11101000] (.rpe) = true := by decide -- R225
theorem test_decode_rst_5 : reads [0b11101111] (.rst5) = true := by decide -- R228
theorem test_decode_push_psw : reads [0b11110101] (.pushPsw) = true := by decide -- R242
theorem test_decode_pop_h : reads [0b11100001] (.popH) = true := by decide -- R243
theorem test_decode_in : reads [0b11011011, 0x01] (.inPort 0x01) = true := by decide -- R255
theorem test_decode_out : reads [0b11010011, 0x02] (.outPort 0x02) = true := by decide -- R256
theorem test_decode_hlt : reads [0b01110110] (.hlt) = true := by decide -- R259
theorem test_decode_undoc_cb : reads [0b11001011] (.undocCB) = true := by decide -- R101

theorem test_decode_truncated : decode [0xC3, 0x00] = .error (.truncated 0xC3 3 2) := by rfl
theorem test_decode_nothing : decode [] = .error .noBytes := by rfl
theorem test_table_word : decodeTableWord 8 0x3E = some (.mviA 0x00) := by decide
theorem test_table_word_wide : decodeTableWord 24 0x0103C3 = some (.jmp 0x0103) := by decide

/-! ### One instruction each -/

theorem test_T10_mov : ends { start with c := 0x5A } [0x41]
    (fun t => t.b == 0x5A && t.flags == bits 0 0 0 0 0 && t.pc == 0x0101 && t.cyc == 5) = true := by decide

theorem test_T11_mov_self : ends { start with a := 0x33 } [0x7F]
    (fun t => t.a == 0x33 && t.flags == bits 0 0 0 0 0 && t.pc == 0x0101 && t.cyc == 5) = true := by decide

theorem test_T12_mov_from_memory : ends (put { start with h := 0x2B, l := 0xE9 } 0x2BE9 [0xFF]) [0x7E]
    (fun t => t.a == 0xFF && t.flags == bits 0 0 0 0 0 && t.pc == 0x0101 && t.cyc == 7) = true := by decide

theorem test_T13_mov_h_from_memory : ends (put { start with h := 0x20, l := 0x10 } 0x2010 [0x99]) [0x66]
    (fun t => t.h == 0x99 && t.l == 0x10 && t.flags == bits 0 0 0 0 0 && t.pc == 0x0101 && t.cyc == 7) = true := by decide

theorem test_T14_mov_to_memory : ends { start with a := 0x3C, h := 0x24 } [0x77]
    (fun t => t.readByte 0x2400 == 0x3C && t.flags == bits 0 0 0 0 0 && t.pc == 0x0101 && t.cyc == 7) = true := by decide

theorem test_T15_mov_memory_h : ends { start with h := 0x20, l := 0x10 } [0x74]
    (fun t => t.readByte 0x2010 == 0x20 && t.flags == bits 0 0 0 0 0 && t.pc == 0x0101 && t.cyc == 7) = true := by decide

theorem test_T16_mvi : ends start [0x26, 0x3C]
    (fun t => t.h == 0x3C && t.flags == bits 0 0 0 0 0 && t.pc == 0x0102 && t.cyc == 7) = true := by decide

theorem test_T17_mvi_memory : ends { start with h := 0x3C, l := 0xF4 } [0x36, 0xFF]
    (fun t => t.readByte 0x3CF4 == 0xFF && t.flags == bits 0 0 0 0 0 && t.pc == 0x0102 && t.cyc == 10) = true := by decide

theorem test_T18_lxi_b : ends start [0x01, 0x34, 0x12]
    (fun t => t.b == 0x12 && t.c == 0x34 && t.flags == bits 0 0 0 0 0 && t.pc == 0x0103 && t.cyc == 10) = true := by decide

theorem test_T19_lxi_sp : ends start [0x31, 0x00, 0x24]
    (fun t => t.sp == 0x2400 && t.flags == bits 0 0 0 0 0 && t.pc == 0x0103 && t.cyc == 10) = true := by decide

theorem test_T20_lda : ends (put start 0x0300 [0x42]) [0x3A, 0x00, 0x03]
    (fun t => t.a == 0x42 && t.flags == bits 0 0 0 0 0 && t.pc == 0x0103 && t.cyc == 13) = true := by decide

theorem test_T21_sta : ends { start with a := 0x7E } [0x32, 0xB3, 0x05]
    (fun t => t.readByte 0x05B3 == 0x7E && t.flags == bits 0 0 0 0 0 && t.pc == 0x0103 && t.cyc == 13) = true := by decide

theorem test_T22_lhld : ends (put (put start 0x025B [0xFF]) 0x025C [0x03]) [0x2A, 0x5B, 0x02]
    (fun t => t.l == 0xFF && t.h == 0x03 && t.flags == bits 0 0 0 0 0 && t.pc == 0x0103 && t.cyc == 16) = true := by decide

theorem test_T23_shld : ends { start with h := 0xAE, l := 0x29 } [0x22, 0x0A, 0x01]
    (fun t => t.readByte 0x010A == 0x29 && t.readByte 0x010B == 0xAE && t.flags == bits 0 0 0 0 0 && t.pc == 0x0103 && t.cyc == 16) = true := by decide

theorem test_T24_shld_wraps : ends { start with h := 0xAE, l := 0x29 } [0x22, 0xFF, 0xFF]
    (fun t => t.readByte 0xFFFF == 0x29 && t.readByte 0x0000 == 0xAE && t.flags == bits 0 0 0 0 0 && t.pc == 0x0103 && t.cyc == 16) = true := by decide

theorem test_T25_ldax : ends (put { start with d := 0x93, e := 0x8B } 0x938B [0x5F]) [0x1A]
    (fun t => t.a == 0x5F && t.flags == bits 0 0 0 0 0 && t.pc == 0x0101 && t.cyc == 7) = true := by decide

theorem test_T26_stax : ends { start with b := 0x3F, c := 0x16, a := 0x9C } [0x02]
    (fun t => t.readByte 0x3F16 == 0x9C && t.flags == bits 0 0 0 0 0 && t.pc == 0x0101 && t.cyc == 7) = true := by decide

theorem test_T27_xchg : ends { start with l := 0xFF, d := 0x33, e := 0x55 } [0xEB]
    (fun t => t.h == 0x33 && t.l == 0x55 && t.d == 0x00 && t.e == 0xFF && t.flags == bits 0 0 0 0 0 && t.pc == 0x0101 && t.cyc == 4) = true := by decide

theorem test_T30_add : ends { start with a := 0x6C, d := 0x2E } [0x82]
    (fun t => t.a == 0x9A && t.flags == bits 1 0 1 1 0 && t.pc == 0x0101 && t.cyc == 4) = true := by decide

theorem test_T31_add_self : ends { start with a := 0x80 } [0x87]
    (fun t => t.a == 0x00 && t.flags == bits 0 1 0 1 1 && t.pc == 0x0101 && t.cyc == 4) = true := by decide

theorem test_T33_add_memory : ends (put { start with a := 0x01, h := 0x20 } 0x2000 [0xFF]) [0x86]
    (fun t => t.a == 0x00 && t.flags == bits 0 1 1 1 1 && t.pc == 0x0101 && t.cyc == 7) = true := by decide

theorem test_T35_adi_ignores_carry : ends { start with a := 0x37, flags := bits 0 0 1 0 1 } [0xC6, 0x00]
    (fun t => t.a == 0x37 && t.flags == bits 0 0 0 0 0 && t.pc == 0x0102 && t.cyc == 7) = true := by decide

theorem test_T37_adc : ends { start with a := 0x3D, c := 0x42, flags := bits 0 0 0 0 1 } [0x89]
    (fun t => t.a == 0x80 && t.flags == bits 1 0 1 0 0 && t.pc == 0x0101 && t.cyc == 4) = true := by decide

theorem test_T38_adc_all_ones : ends { start with a := 0xFF, b := 0xFF, flags := bits 0 0 0 0 1 } [0x88]
    (fun t => t.a == 0xFF && t.flags == bits 1 0 1 1 1 && t.pc == 0x0101 && t.cyc == 4) = true := by decide

theorem test_T39_adc_memory : ends (put { start with flags := bits 0 0 0 0 1, h := 0x20 } 0x2000 [0x00]) [0x8E]
    (fun t => t.a == 0x01 && t.flags == bits 0 0 0 0 0 && t.pc == 0x0101 && t.cyc == 7) = true := by decide

theorem test_T40_aci : ends { start with a := 0x56 } [0xCE, 0xBE]
    (fun t => t.a == 0x14 && t.flags == bits 0 0 1 1 1 && t.pc == 0x0102 && t.cyc == 7) = true := by decide

theorem test_T41_aci_carry : ends { start with a := 0x14, flags := bits 0 0 0 0 1 } [0xCE, 0x42]
    (fun t => t.a == 0x57 && t.flags == bits 0 0 0 0 0 && t.pc == 0x0102 && t.cyc == 7) = true := by decide

theorem test_T42_sub_self : ends { start with a := 0x3E } [0x97]
    (fun t => t.a == 0x00 && t.flags == bits 0 1 1 1 0 && t.pc == 0x0101 && t.cyc == 4) = true := by decide

theorem test_T43_sub_borrow : ends { start with b := 0x01 } [0x90]
    (fun t => t.a == 0xFF && t.flags == bits 1 0 0 1 1 && t.pc == 0x0101 && t.cyc == 4) = true := by decide

theorem test_T45_sub_memory : ends (put { start with a := 0x10, h := 0x20 } 0x2000 [0x01]) [0x96]
    (fun t => t.a == 0x0F && t.flags == bits 0 0 0 1 0 && t.pc == 0x0101 && t.cyc == 7) = true := by decide

theorem test_T46_sui : ends start [0xD6, 0x01]
    (fun t => t.a == 0xFF && t.flags == bits 1 0 0 1 1 && t.pc == 0x0102 && t.cyc == 7) = true := by decide

theorem test_T47_sui_zero : ends { start with a := 0x37 } [0xD6, 0x00]
    (fun t => t.a == 0x37 && t.flags == bits 0 0 1 0 0 && t.pc == 0x0102 && t.cyc == 7) = true := by decide

theorem test_T48_sbb : ends { start with a := 0x04, l := 0x02, flags := bits 0 0 0 0 1 } [0x9D]
    (fun t => t.a == 0x01 && t.flags == bits 0 0 1 0 0 && t.pc == 0x0101 && t.cyc == 4) = true := by decide

theorem test_T49_sbb_wraps : ends { start with b := 0xFF, flags := bits 0 0 0 0 1 } [0x98]
    (fun t => t.a == 0x00 && t.flags == bits 0 1 0 1 1 && t.pc == 0x0101 && t.cyc == 4) = true := by decide

theorem test_T52_sbb_self_carry : ends { start with a := 0x5A, flags := bits 0 0 0 0 1 } [0x9F]
    (fun t => t.a == 0xFF && t.flags == bits 1 0 0 1 1 && t.pc == 0x0101 && t.cyc == 4) = true := by decide

theorem test_T53_sbb_memory : ends (put { start with a := 0x04, flags := bits 0 0 0 0 1, h := 0x20 } 0x2000 [0x02]) [0x9E]
    (fun t => t.a == 0x01 && t.flags == bits 0 0 1 0 0 && t.pc == 0x0101 && t.cyc == 7) = true := by decide

theorem test_T54_sbi : ends start [0xDE, 0x01]
    (fun t => t.a == 0xFF && t.flags == bits 1 0 0 1 1 && t.pc == 0x0102 && t.cyc == 7) = true := by decide

theorem test_T55_sbi_carry : ends { start with flags := bits 0 0 0 0 1 } [0xDE, 0x01]
    (fun t => t.a == 0xFE && t.flags == bits 1 0 0 0 1 && t.pc == 0x0102 && t.cyc == 7) = true := by decide

theorem test_T56_inr_keeps_carry : ends { start with c := 0x99, flags := bits 0 0 0 0 1 } [0x0C]
    (fun t => t.c == 0x9A && t.flags == bits 1 0 0 1 1 && t.pc == 0x0101 && t.cyc == 5) = true := by decide

theorem test_T57_inr_wraps : ends { start with a := 0xFF } [0x3C]
    (fun t => t.a == 0x00 && t.flags == bits 0 1 1 1 0 && t.pc == 0x0101 && t.cyc == 5) = true := by decide

theorem test_T58_inr_nibble : ends { start with b := 0x0F } [0x04]
    (fun t => t.b == 0x10 && t.flags == bits 0 0 1 0 0 && t.pc == 0x0101 && t.cyc == 5) = true := by decide

theorem test_T60_inr_memory : ends (put { start with h := 0x20, l := 0x10 } 0x2010 [0xFF]) [0x34]
    (fun t => t.readByte 0x2010 == 0x00 && t.flags == bits 0 1 1 1 0 && t.pc == 0x0101 && t.cyc == 10) = true := by decide

theorem test_T61_dcr_keeps_carry : ends start [0x05]
    (fun t => t.b == 0xFF && t.flags == bits 1 0 0 1 0 && t.pc == 0x0101 && t.cyc == 5) = true := by decide

theorem test_T64_dcr_sign : ends { start with b := 0x80 } [0x05]
    (fun t => t.b == 0x7F && t.flags == bits 0 0 0 0 0 && t.pc == 0x0101 && t.cyc == 5) = true := by decide

theorem test_T65_dcr_memory : ends (put { start with h := 0x3A, l := 0x7C } 0x3A7C [0x40]) [0x35]
    (fun t => t.readByte 0x3A7C == 0x3F && t.flags == bits 0 0 0 1 0 && t.pc == 0x0101 && t.cyc == 10) = true := by decide

theorem test_T66_inx_writes_no_flag : ends { start with d := 0x38, e := 0xFF, flags := bits 1 1 1 1 1 } [0x13]
    (fun t => t.d == 0x39 && t.e == 0x00 && t.flags == bits 1 1 1 1 1 && t.pc == 0x0101 && t.cyc == 5) = true := by decide

theorem test_T67_inx_sp_wraps : ends { start with sp := 0xFFFF } [0x33]
    (fun t => t.sp == 0x0000 && t.flags == bits 0 0 0 0 0 && t.pc == 0x0101 && t.cyc == 5) = true := by decide

theorem test_T68_dcx : ends { start with h := 0x98 } [0x2B]
    (fun t => t.h == 0x97 && t.l == 0xFF && t.flags == bits 0 0 0 0 0 && t.pc == 0x0101 && t.cyc == 5) = true := by decide

theorem test_T70_dad : ends { start with b := 0x33, c := 0x9F, h := 0xA1, l := 0x7B, flags := bits 1 1 1 1 1 } [0x09]
    (fun t => t.h == 0xD5 && t.l == 0x1A && t.flags == bits 1 1 1 1 0 && t.pc == 0x0101 && t.cyc == 10) = true := by decide

theorem test_T72_dad_sp : ends { start with l := 0x01, sp := 0xFFFF } [0x39]
    (fun t => t.h == 0x00 && t.l == 0x00 && t.sp == 0xFFFF && t.flags == bits 0 0 0 0 1 && t.pc == 0x0101 && t.cyc == 10) = true := by decide

theorem test_T90_ana : ends { start with a := 0xFC, c := 0x0F, flags := bits 0 0 0 0 1 } [0xA1]
    (fun t => t.a == 0x0C && t.flags == bits 0 0 1 1 0 && t.pc == 0x0101 && t.cyc == 4) = true := by decide

theorem test_T92_ana_self : ends { start with a := 0x88, flags := bits 0 0 0 0 1 } [0xA7]
    (fun t => t.a == 0x88 && t.flags == bits 1 0 1 1 0 && t.pc == 0x0101 && t.cyc == 4) = true := by decide

theorem test_T93_ana_memory : ends (put { start with a := 0xF0, h := 0x20 } 0x2000 [0x0F]) [0xA6]
    (fun t => t.a == 0x00 && t.flags == bits 0 1 1 1 0 && t.pc == 0x0101 && t.cyc == 7) = true := by decide

theorem test_T95_ani : ends start [0xE6, 0xFF]
    (fun t => t.a == 0x00 && t.flags == bits 0 1 1 1 0 && t.pc == 0x0102 && t.cyc == 7) = true := by decide

theorem test_T96_ani_zero : ends { start with a := 0x08 } [0xE6, 0x00]
    (fun t => t.a == 0x00 && t.flags == bits 0 1 1 1 0 && t.pc == 0x0102 && t.cyc == 7) = true := by decide

theorem test_T97_xra_self : ends { start with a := 0x5A, flags := bits 0 0 1 0 1 } [0xAF]
    (fun t => t.a == 0x00 && t.flags == bits 0 1 0 1 0 && t.pc == 0x0101 && t.cyc == 4) = true := by decide

theorem test_T98_xra : ends { start with a := 0xFF, b := 0x0F } [0xA8]
    (fun t => t.a == 0xF0 && t.flags == bits 1 0 0 1 0 && t.pc == 0x0101 && t.cyc == 4) = true := by decide

theorem test_T99_xra_memory : ends (put { start with a := 0x5C, h := 0x20 } 0x2000 [0x78]) [0xAE]
    (fun t => t.a == 0x24 && t.flags == bits 0 0 0 1 0 && t.pc == 0x0101 && t.cyc == 7) = true := by decide

theorem test_T100_xri : ends { start with a := 0x3B } [0xEE, 0x81]
    (fun t => t.a == 0xBA && t.flags == bits 1 0 0 0 0 && t.pc == 0x0102 && t.cyc == 7) = true := by decide

theorem test_T101_ora : ends { start with a := 0x33, c := 0x0F, flags := bits 0 0 1 0 1 } [0xB1]
    (fun t => t.a == 0x3F && t.flags == bits 0 0 0 1 0 && t.pc == 0x0101 && t.cyc == 4) = true := by decide

theorem test_T102_ora_memory : ends (put { start with h := 0x20 } 0x2000 [0x00]) [0xB6]
    (fun t => t.a == 0x00 && t.flags == bits 0 1 0 1 0 && t.pc == 0x0101 && t.cyc == 7) = true := by decide

theorem test_T103_ori : ends { start with a := 0xB5 } [0xF6, 0x0F]
    (fun t => t.a == 0xBF && t.flags == bits 1 0 0 0 0 && t.pc == 0x0102 && t.cyc == 7) = true := by decide

theorem test_T105_cmp_less : ends { start with a := 0x02, e := 0x05 } [0xBB]
    (fun t => t.a == 0x02 && t.flags == bits 1 0 0 0 1 && t.pc == 0x0101 && t.cyc == 4) = true := by decide

theorem test_T106_cmp_sign : ends { start with a := 0xE5, e := 0x05 } [0xBB]
    (fun t => t.a == 0xE5 && t.flags == bits 1 0 1 0 0 && t.pc == 0x0101 && t.cyc == 4) = true := by decide

theorem test_T108_cmp_memory : ends (put { start with a := 0x4A, h := 0x20 } 0x2000 [0x4A]) [0xBE]
    (fun t => t.a == 0x4A && t.flags == bits 0 1 1 1 0 && t.pc == 0x0101 && t.cyc == 7) = true := by decide

theorem test_T109_cpi : ends { start with a := 0x4A } [0xFE, 0x40]
    (fun t => t.a == 0x4A && t.flags == bits 0 0 1 1 0 && t.pc == 0x0102 && t.cyc == 7) = true := by decide

theorem test_T111_cpi_sign : ends start [0xFE, 0x80]
    (fun t => t.a == 0x00 && t.flags == bits 1 0 1 0 1 && t.pc == 0x0102 && t.cyc == 7) = true := by decide

theorem test_T112_cma : ends { start with a := 0x51 } [0x2F]
    (fun t => t.a == 0xAE && t.flags == bits 0 0 0 0 0 && t.pc == 0x0101 && t.cyc == 4) = true := by decide

theorem test_T113_cmc : ends { start with flags := bits 1 0 1 0 1 } [0x3F]
    (fun t => t.a == 0x00 && t.flags == bits 1 0 1 0 0 && t.pc == 0x0101 && t.cyc == 4) = true := by decide

theorem test_T115_stc : ends { start with flags := bits 0 1 0 1 0 } [0x37]
    (fun t => t.a == 0x00 && t.flags == bits 0 1 0 1 1 && t.pc == 0x0101 && t.cyc == 4) = true := by decide

theorem test_T120_rlc : ends { start with a := 0xF2 } [0x07]
    (fun t => t.a == 0xE5 && t.flags == bits 0 0 0 0 1 && t.pc == 0x0101 && t.cyc == 4) = true := by decide

theorem test_T121_rlc_zero : ends { start with flags := bits 0 0 0 0 1 } [0x07]
    (fun t => t.a == 0x00 && t.flags == bits 0 0 0 0 0 && t.pc == 0x0101 && t.cyc == 4) = true := by decide

theorem test_T122_rrc : ends { start with a := 0xF2 } [0x0F]
    (fun t => t.a == 0x79 && t.flags == bits 0 0 0 0 0 && t.pc == 0x0101 && t.cyc == 4) = true := by decide

theorem test_T123_rrc_one : ends { start with a := 0x01 } [0x0F]
    (fun t => t.a == 0x80 && t.flags == bits 0 0 0 0 1 && t.pc == 0x0101 && t.cyc == 4) = true := by decide

theorem test_T124_ral : ends { start with a := 0xB5 } [0x17]
    (fun t => t.a == 0x6A && t.flags == bits 0 0 0 0 1 && t.pc == 0x0101 && t.cyc == 4) = true := by decide

theorem test_T125_ral_zero : ends { start with a := 0x80 } [0x17]
    (fun t => t.a == 0x00 && t.flags == bits 0 0 0 0 1 && t.pc == 0x0101 && t.cyc == 4) = true := by decide

theorem test_T126_rar : ends { start with a := 0x6A, flags := bits 0 0 0 0 1 } [0x1F]
    (fun t => t.a == 0xB5 && t.flags == bits 0 0 0 0 0 && t.pc == 0x0101 && t.cyc == 4) = true := by decide

theorem test_T127_rar_one : ends { start with a := 0x01 } [0x1F]
    (fun t => t.a == 0x00 && t.flags == bits 0 0 0 0 1 && t.pc == 0x0101 && t.cyc == 4) = true := by decide

theorem test_T130_jmp : ends start [0xC3, 0xD4, 0x18]
    (fun t => t.flags == bits 0 0 0 0 0 && t.pc == 0x18D4 && t.cyc == 10) = true := by decide

theorem test_T132_jm_taken : ends { start with flags := bits 1 0 0 0 0 } [0xFA, 0x00, 0x20]
    (fun t => t.flags == bits 1 0 0 0 0 && t.pc == 0x2000 && t.cyc == 10) = true := by decide

theorem test_T133_jm_not_taken : ends start [0xFA, 0x00, 0x20]
    (fun t => t.flags == bits 0 0 0 0 0 && t.pc == 0x0103 && t.cyc == 10) = true := by decide

theorem test_T134_jpe : ends { start with flags := bits 0 0 0 1 0 } [0xEA, 0x00, 0x20]
    (fun t => t.flags == bits 0 0 0 1 0 && t.pc == 0x2000 && t.cyc == 10) = true := by decide

theorem test_T135_jpo : ends start [0xE2, 0x00, 0x20]
    (fun t => t.flags == bits 0 0 0 0 0 && t.pc == 0x2000 && t.cyc == 10) = true := by decide

theorem test_R202_jnz : ends start [0xC2, 0x00, 0x20]
    (fun t => t.flags == bits 0 0 0 0 0 && t.pc == 0x2000 && t.cyc == 10) = true := by decide

theorem test_R203_jz : ends { start with flags := bits 0 1 0 0 0 } [0xCA, 0x00, 0x20]
    (fun t => t.flags == bits 0 1 0 0 0 && t.pc == 0x2000 && t.cyc == 10) = true := by decide

theorem test_R204_jnc : ends start [0xD2, 0x00, 0x20]
    (fun t => t.flags == bits 0 0 0 0 0 && t.pc == 0x2000 && t.cyc == 10) = true := by decide

theorem test_R205_jc : ends { start with flags := bits 0 0 0 0 1 } [0xDA, 0x00, 0x20]
    (fun t => t.flags == bits 0 0 0 0 1 && t.pc == 0x2000 && t.cyc == 10) = true := by decide

theorem test_R208_jp : ends start [0xF2, 0x00, 0x20]
    (fun t => t.flags == bits 0 0 0 0 0 && t.pc == 0x2000 && t.cyc == 10) = true := by decide

theorem test_T136_call : ends { start with sp := 0x2400 } [0xCD, 0x32, 0x1A]
    (fun t => t.readByte 0x23FF == 0x01 && t.readByte 0x23FE == 0x03 && t.sp == 0x23FE && t.flags == bits 0 0 0 0 0 && t.pc == 0x1A32 && t.cyc == 17) = true := by decide

theorem test_R211_cnz : ends { start with sp := 0x2400 } [0xC4, 0x00, 0x02]
    (fun t => t.readByte 0x23FF == 0x01 && t.readByte 0x23FE == 0x03 && t.sp == 0x23FE && t.flags == bits 0 0 0 0 0 && t.pc == 0x0200 && t.cyc == 17) = true := by decide

theorem test_R212_cz : ends { start with sp := 0x2400, flags := bits 0 1 0 0 0 } [0xCC, 0x00, 0x02]
    (fun t => t.readByte 0x23FF == 0x01 && t.readByte 0x23FE == 0x03 && t.sp == 0x23FE && t.flags == bits 0 1 0 0 0 && t.pc == 0x0200 && t.cyc == 17) = true := by decide

theorem test_T138_cnc : ends { start with sp := 0x2400 } [0xD4, 0x00, 0x02]
    (fun t => t.readByte 0x23FF == 0x01 && t.readByte 0x23FE == 0x03 && t.sp == 0x23FE && t.flags == bits 0 0 0 0 0 && t.pc == 0x0200 && t.cyc == 17) = true := by decide

theorem test_R214_cc : ends { start with sp := 0x2400, flags := bits 0 0 0 0 1 } [0xDC, 0x00, 0x02]
    (fun t => t.readByte 0x23FF == 0x01 && t.readByte 0x23FE == 0x03 && t.sp == 0x23FE && t.flags == bits 0 0 0 0 1 && t.pc == 0x0200 && t.cyc == 17) = true := by decide

theorem test_R215_cpo : ends { start with sp := 0x2400 } [0xE4, 0x00, 0x02]
    (fun t => t.readByte 0x23FF == 0x01 && t.readByte 0x23FE == 0x03 && t.sp == 0x23FE && t.flags == bits 0 0 0 0 0 && t.pc == 0x0200 && t.cyc == 17) = true := by decide

theorem test_R216_cpe : ends { start with sp := 0x2400, flags := bits 0 0 0 1 0 } [0xEC, 0x00, 0x02]
    (fun t => t.readByte 0x23FF == 0x01 && t.readByte 0x23FE == 0x03 && t.sp == 0x23FE && t.flags == bits 0 0 0 1 0 && t.pc == 0x0200 && t.cyc == 17) = true := by decide

theorem test_R217_cp : ends { start with sp := 0x2400 } [0xF4, 0x00, 0x02]
    (fun t => t.readByte 0x23FF == 0x01 && t.readByte 0x23FE == 0x03 && t.sp == 0x23FE && t.flags == bits 0 0 0 0 0 && t.pc == 0x0200 && t.cyc == 17) = true := by decide

theorem test_R218_cm : ends { start with sp := 0x2400, flags := bits 1 0 0 0 0 } [0xFC, 0x00, 0x02]
    (fun t => t.readByte 0x23FF == 0x01 && t.readByte 0x23FE == 0x03 && t.sp == 0x23FE && t.flags == bits 1 0 0 0 0 && t.pc == 0x0200 && t.cyc == 17) = true := by decide

theorem test_T139_cnc_not_taken : ends { start with sp := 0x2400, flags := bits 0 0 0 0 1 } [0xD4, 0x00, 0x02]
    (fun t => t.sp == 0x2400 && t.readByte 0x23FF == 0 && t.flags == bits 0 0 0 0 1 && t.pc == 0x0103 && t.cyc == 11) = true := by decide

theorem test_T140_ret : ends (put (put { start with sp := 0x23FE } 0x23FE [0x03]) 0x23FF [0x01]) [0xC9]
    (fun t => t.sp == 0x2400 && t.flags == bits 0 0 0 0 0 && t.pc == 0x0103 && t.cyc == 10) = true := by decide

theorem test_R220_rnz : ends (put (put { start with sp := 0x23FE } 0x23FE [0x03]) 0x23FF [0x01]) [0xC0]
    (fun t => t.sp == 0x2400 && t.flags == bits 0 0 0 0 0 && t.pc == 0x0103 && t.cyc == 11) = true := by decide

theorem test_T141_rz : ends (put (put { start with sp := 0x23FE, flags := bits 0 1 0 0 0 } 0x23FE [0x03]) 0x23FF [0x01]) [0xC8]
    (fun t => t.sp == 0x2400 && t.flags == bits 0 1 0 0 0 && t.pc == 0x0103 && t.cyc == 11) = true := by decide

theorem test_R222_rnc : ends (put (put { start with sp := 0x23FE } 0x23FE [0x03]) 0x23FF [0x01]) [0xD0]
    (fun t => t.sp == 0x2400 && t.flags == bits 0 0 0 0 0 && t.pc == 0x0103 && t.cyc == 11) = true := by decide

theorem test_R223_rc : ends (put (put { start with sp := 0x23FE, flags := bits 0 0 0 0 1 } 0x23FE [0x03]) 0x23FF [0x01]) [0xD8]
    (fun t => t.sp == 0x2400 && t.flags == bits 0 0 0 0 1 && t.pc == 0x0103 && t.cyc == 11) = true := by decide

theorem test_R224_rpo : ends (put (put { start with sp := 0x23FE } 0x23FE [0x03]) 0x23FF [0x01]) [0xE0]
    (fun t => t.sp == 0x2400 && t.flags == bits 0 0 0 0 0 && t.pc == 0x0103 && t.cyc == 11) = true := by decide

theorem test_R225_rpe : ends (put (put { start with sp := 0x23FE, flags := bits 0 0 0 1 0 } 0x23FE [0x03]) 0x23FF [0x01]) [0xE8]
    (fun t => t.sp == 0x2400 && t.flags == bits 0 0 0 1 0 && t.pc == 0x0103 && t.cyc == 11) = true := by decide

theorem test_R226_rp : ends (put (put { start with sp := 0x23FE } 0x23FE [0x03]) 0x23FF [0x01]) [0xF0]
    (fun t => t.sp == 0x2400 && t.flags == bits 0 0 0 0 0 && t.pc == 0x0103 && t.cyc == 11) = true := by decide

theorem test_R227_rm : ends (put (put { start with sp := 0x23FE, flags := bits 1 0 0 0 0 } 0x23FE [0x03]) 0x23FF [0x01]) [0xF8]
    (fun t => t.sp == 0x2400 && t.flags == bits 1 0 0 0 0 && t.pc == 0x0103 && t.cyc == 11) = true := by decide

theorem test_T142_rz_not_taken : ends { start with sp := 0x23FE } [0xC8]
    (fun t => t.sp == 0x23FE && t.flags == bits 0 0 0 0 0 && t.pc == 0x0101 && t.cyc == 5) = true := by decide

theorem test_T144_rst7 : ends { start with sp := 0x2400 } [0xFF]
    (fun t => t.readByte 0x23FF == 0x01 && t.readByte 0x23FE == 0x01 && t.sp == 0x23FE && t.flags == bits 0 0 0 0 0 && t.pc == 0x0038 && t.cyc == 11) = true := by decide

theorem test_T145_rst0 : ends { start with sp := 0x2400, a := 0x55 } [0xC7]
    (fun t => t.a == 0x55 && t.sp == 0x23FE && t.flags == bits 0 0 0 0 0 && t.pc == 0x0000 && t.cyc == 11) = true := by decide

theorem test_T146_pchl : ends { start with h := 0x41, l := 0x3E } [0xE9]
    (fun t => t.flags == bits 0 0 0 0 0 && t.pc == 0x413E && t.cyc == 5) = true := by decide

theorem test_T150_push : ends { start with d := 0x8F, e := 0x9D, sp := 0x3A2C } [0xD5]
    (fun t => t.readByte 0x3A2B == 0x8F && t.readByte 0x3A2A == 0x9D && t.sp == 0x3A2A && t.flags == bits 0 0 0 0 0 && t.pc == 0x0101 && t.cyc == 11) = true := by decide

theorem test_T151_push_wraps : ends { start with b := 0x12, c := 0x34, sp := 0x0001 } [0xC5]
    (fun t => t.readByte 0x0000 == 0x12 && t.readByte 0xFFFF == 0x34 && t.sp == 0xFFFF && t.flags == bits 0 0 0 0 0 && t.pc == 0x0101 && t.cyc == 11) = true := by decide

theorem test_T152_push_psw : ends { start with a := 0x1F, sp := 0x502A, flags := bits 0 1 0 1 1 } [0xF5]
    (fun t => t.readByte 0x5029 == 0x1F && t.readByte 0x5028 == 0x47 && t.sp == 0x5028 && t.flags == bits 0 1 0 1 1 && t.pc == 0x0101 && t.cyc == 11) = true := by decide

theorem test_T153_push_psw_constant_bits : ends { start with sp := 0x2400 } [0xF5]
    (fun t => t.readByte 0x23FF == 0x00 && t.readByte 0x23FE == 0x02 && t.flags == bits 0 0 0 0 0 && t.pc == 0x0101 && t.cyc == 11) = true := by decide

theorem test_T154_pop : ends (put (put { start with sp := 0x1239 } 0x1239 [0x3D]) 0x123A [0x93]) [0xE1]
    (fun t => t.l == 0x3D && t.h == 0x93 && t.sp == 0x123B && t.flags == bits 0 0 0 0 0 && t.pc == 0x0101 && t.cyc == 10) = true := by decide

theorem test_T155_pop_wraps : ends (put (put { start with sp := 0xFFFF } 0xFFFF [0x3D]) 0x0000 [0x93]) [0xE1]
    (fun t => t.l == 0x3D && t.h == 0x93 && t.sp == 0x0001 && t.flags == bits 0 0 0 0 0 && t.pc == 0x0101 && t.cyc == 10) = true := by decide

theorem test_T156_pop_psw : ends (put (put { start with sp := 0x2C00 } 0x2C00 [0xC3]) 0x2C01 [0xFF]) [0xF1]
    (fun t => t.a == 0xFF && t.sp == 0x2C02 && t.flags == bits 1 1 0 0 1 && t.pc == 0x0101 && t.cyc == 10) = true := by decide

theorem test_T159_xthl : ends (put (put { start with sp := 0x10AD, h := 0x0B, l := 0x3C } 0x10AD [0xF0]) 0x10AE [0x0D]) [0xE3]
    (fun t => t.h == 0x0D && t.l == 0xF0 && t.readByte 0x10AD == 0x3C && t.readByte 0x10AE == 0x0B && t.sp == 0x10AD && t.flags == bits 0 0 0 0 0 && t.pc == 0x0101 && t.cyc == 18) = true := by decide

theorem test_T160_sphl : ends { start with h := 0x50, l := 0x6C } [0xF9]
    (fun t => t.sp == 0x506C && t.flags == bits 0 0 0 0 0 && t.pc == 0x0101 && t.cyc == 5) = true := by decide

theorem test_T170_in1 : ends { start with inp1 := 0x05 } [0xDB, 0x01]
    (fun t => t.a == 0x05 && t.flags == bits 0 0 0 0 0 && t.pc == 0x0102 && t.cyc == 10) = true := by decide

theorem test_T172_in_undefined : ends { start with a := 0x77 } [0xDB, 0x07]
    (fun t => t.a == 0x00 && t.flags == bits 0 0 0 0 0 && t.pc == 0x0102 && t.cyc == 10) = true := by decide

theorem test_T174_out2 : ends { start with a := 0xFC } [0xD3, 0x02]
    (fun t => t.shamt == 4 && t.flags == bits 0 0 0 0 0 && t.pc == 0x0102 && t.cyc == 10) = true := by decide

theorem test_T175_out4 : ends { start with a := 0xCD, shift := 0xAB12 } [0xD3, 0x04]
    (fun t => t.shift == 0xCDAB && t.flags == bits 0 0 0 0 0 && t.pc == 0x0102 && t.cyc == 10) = true := by decide

theorem test_T177_ei : ends start [0xFB]
    (fun t => t.inte && t.flags == bits 0 0 0 0 0 && t.pc == 0x0101 && t.cyc == 4) = true := by decide

theorem test_T178_di : ends { start with inte := true } [0xF3]
    (fun t => !t.inte && t.flags == bits 0 0 0 0 0 && t.pc == 0x0101 && t.cyc == 4) = true := by decide

theorem test_T179_hlt : ends start [0x76]
    (fun t => t.halted && t.flags == bits 0 0 0 0 0 && t.pc == 0x0101 && t.cyc == 7) = true := by decide

theorem test_T181_nop : ends start [0x00]
    (fun t => t.flags == bits 0 0 0 0 0 && t.pc == 0x0101 && t.cyc == 4) = true := by decide

/-! ### DAA, vectors T74a to T74l -/

/-- DAA on A with AC and CY. -/
def daaOf (a : Byte) (ac cy : Nat) : Byte × Flags := daa8 a (bits 0 0 ac 0 cy)

theorem test_T74_daa :
    daaOf 0x9B 0 0 = (0x01, bits 0 0 1 0 1) ∧
    daaOf 0x00 0 0 = (0x00, bits 0 1 0 1 0) ∧
    daaOf 0x0A 0 0 = (0x10, bits 0 0 1 0 0) ∧
    daaOf 0x9A 0 0 = (0x00, bits 0 1 1 1 1) ∧
    daaOf 0x99 0 0 = (0x99, bits 1 0 0 1 0) ∧
    daaOf 0xA0 0 0 = (0x00, bits 0 1 0 1 1) ∧
    daaOf 0x12 1 0 = (0x18, bits 0 0 0 1 0) ∧
    daaOf 0x12 0 1 = (0x72, bits 0 0 0 1 1) ∧
    daaOf 0xFA 0 0 = (0x60, bits 0 0 1 1 1) ∧
    daaOf 0x3C 0 0 = (0x42, bits 0 0 1 1 0) ∧
    daaOf 0xBB 0 0 = (0x21, bits 0 0 1 1 1) ∧
    daaOf 0x73 1 0 = (0x79, bits 0 0 0 0 0) := by decide

theorem test_T74a_daa_step : ends { start with a := 0x9B } [0x27]
    (fun t => t.a == 0x01 && t.flags == bits 0 0 1 0 1 && t.cyc == 4) = true := by decide

/-! ### The shifter, vectors T1, T182, T183 -/

theorem test_T1_shifter : (((start.writePort 2 0x04).writePort 4 0xFF).writePort 4 0x00).readPort 3 = 0x0F := by
  decide

theorem test_T183_shifter : (((start.writePort 2 0x04).writePort 4 0x00).writePort 4 0xFF).readPort 3 = 0xF0 := by
  decide

theorem test_T182_shift_results :
    ([0, 1, 2, 3, 4, 5, 6, 7] : List (BitVec 3)).map
      (fun k => State.readPort { start with shift := 0xCDAB, shamt := k } 3) =
    [0xCD, 0x9B, 0x36, 0x6D, 0xDA, 0xB5, 0x6A, 0xD5] := by decide

/-! ### Wrap, fetch, faults, interrupts, vectors T131, T137, T180, T190 to T198 -/

theorem test_T131_jmp_wraps : ends (put (put { start with pc := 0xFFFE } 0 [0x12]) 0xFFFE [0xC3, 0x34]) []
    (fun t => t.pc == 0x1234) = true := by decide

theorem test_T137_call_at_top : ends { start with pc := 0xFFFD, sp := 0x2400 } [0xCD, 0x34, 0x12]
    (fun t => t.readByte 0x23FF == 0 && t.readByte 0x23FE == 0 && t.sp == 0x23FE && t.pc == 0x1234) = true := by
  decide

theorem test_T180_halted_idles : ends { start with halted := true } [0x3C]
    (fun t => decide (t = { put start 0x0100 [0x3C] with halted := true, cyc := 4, phase := .firstHalf })) = true := by
  decide

theorem test_T190_operand_wraps : ends (put { start with pc := 0xFFFF } 0 [0x77]) [0x3E]
    (fun t => t.a == 0x77 && t.pc == 0x0001 && t.cyc == 7) = true := by decide

theorem test_T191_undocumented_faults : ends { start with a := 0x55 } [0x08]
    (fun t => decide (t.status = .faulted 0x08 0x0100) && t.pc == 0x0100 && t.a == 0x55 && t.cyc == 0) = true := by
  decide

theorem test_T191_then_no_step :
    step { start with status := .faulted 0x08 0x0100 } = .fault (.faulted 0x08 0x0100) := rfl

/-- The configuration of vectors T192 to T195. -/
def aliasing : Config := { Config.hardware with undocPolicy := .aliases }

/-- The answer is a next state with the property. -/
def nextWith (r : Answer) (ok : State → Bool) : Bool :=
  match r with
  | .next t => ok t
  | .fault _ => false
  | .refused _ => false

theorem test_T192_alias_nop : nextWith (undocumentedOn aliasing 0x08 start)
    (fun t => t.pc == 0x0101 && t.cyc == 4) = true := by decide

theorem test_T193_alias_jmp : nextWith
    (undocumentedOn aliasing 0xCB (put start 0x0100 [0xCB, 0x00, 0x20]))
    (fun t => t.pc == 0x2000 && t.cyc == 10) = true := by decide

theorem test_T194_alias_call : nextWith
    (undocumentedOn aliasing 0xDD (put { start with sp := 0x2400 } 0x0100 [0xDD, 0x00, 0x20]))
    (fun t => t.pc == 0x2000 && t.sp == 0x23FE && t.readByte 0x23FE == 0x03 && t.cyc == 17) = true := by decide

theorem test_T195_alias_ret : nextWith
    (undocumentedOn aliasing 0xD9 (put { start with sp := 0x23FE } 0x23FE [0x03, 0x01]))
    (fun t => t.pc == 0x0103 && t.sp == 0x2400 && t.cyc == 10) = true := by decide

/-- The start state of vectors T196 and T197. -/
def asleep : State := { start with pc := 0x1234, sp := 0x2400, halted := true, a := 0x77, flags := bits 0 0 0 0 1 }

theorem test_T196_interrupt_accepted :
    let t := State.interrupt { asleep with inte := true } 2
    t.readByte 0x23FF = 0x12 ∧ t.readByte 0x23FE = 0x34 ∧ t.sp = 0x23FE ∧ t.pc = 0x0010 ∧ t.inte = false ∧
      t.halted = false ∧ t.a = 0x77 ∧ t.flags = bits 0 0 0 0 1 := by decide

theorem test_T197_interrupt_dropped : asleep.interrupt 2 = asleep := by decide

theorem test_T198_interrupt_wraps :
    let t := State.interrupt { start with pc := 0x1234, sp := 0x0000, inte := true } 1
    t.readByte 0xFFFF = 0x12 ∧ t.readByte 0xFFFE = 0x34 ∧ t.sp = 0xFFFE ∧ t.pc = 0x0008 := by decide

/-! ### The scheduler at its thresholds (R284), pause (R286), the host (T5, R57, R67, R79) -/

/-- Vector 1 is offered at 16,666, with P6's pushed PC. -/
theorem test_P6_first_threshold :
    ends { start with inte := true, sp := 0x2400, pc := 0x0107, cyc := 16669, phase := .firstHalf } []
      (fun t => t.pc == 0x0008 && t.sp == 0x23FE && t.readByte 0x23FE == 0x07 && t.cyc == 16669 &&
        decide (t.phase = .secondHalf)) = true := by decide

/-- One cycle below the threshold the CPU still steps. -/
theorem test_below_first_threshold :
    ends { start with inte := true, cyc := 16665, phase := .firstHalf } [0x00]
      (fun t => t.pc == 0x0101 && t.cyc == 16669 && decide (t.phase = .firstHalf)) = true := by decide

/-- At 33,333 the frame ends; INTE = 0 drops vector 2. -/
theorem test_end_of_frame :
    ends { start with cyc := 33333, phase := .secondHalf } [0x00]
      (fun t => t.pc == 0x0100 && t.cyc == 33333 && decide (t.phase = .betweenFrames)) = true := by decide

theorem test_T6_paused_frame : step { start with paused := true } = .next { start with paused := true } := rfl

theorem test_T5_input_bit : nextWith (State.setInputBit { start with inp1 := 0x74, inp2 := 0x12 } 1 0 true)
    (fun t => t.inp1 == 0x75 && t.inp2 == 0x12 &&
      nextWith (t.setInputBit 1 0 false) (fun u => u.inp1 == 0x74 && u.inp2 == 0x12)) = true := by decide

theorem test_input_bit_refused : start.setInputBit 3 0 true = .refused (.badInputBit 3 0) ∧
    start.setInputBit 1 8 true = .refused (.badInputBit 1 8) := ⟨rfl, rfl⟩

theorem test_framebuffer : framebufferByte (put start 0x2400 [0xA5]) 0 = .ok 0xA5 ∧
    framebufferByte start 7168 = .error (.badFramebufferIndex 7168) := ⟨rfl, rfl⟩

/-! ### A table word as the first instruction after reset -/

theorem test_withFetchWord : nextWith (step (State.reset.withFetchWord 24 0x0103C3))
    (fun t => t.pc == 0x0103 && t.cyc == 10) = true := by decide

theorem test_withFetchWord_wakes : nextWith (step (State.withFetchWord { start with halted := true } 8 0x3C))
    (fun t => t.a == 0x01) = true := by decide

/-! ### Witnesses: concrete states and operands that meet the hypotheses of each statement that has some -/

/-- The bytes 0x3C 0x00 0x00 at PC decode to INR A. -/
theorem witness_decode : decode (Claims.bytesAtPc (put start 0x0100 [0x3C])) = .ok (.inrA, [0x00, 0x00]) := rfl

/-- StepRunsTheDecodedInstruction, each clause, at the last count below its threshold. -/
theorem witness_step_clauses :
    let s := put start 0x0100 [0x3C]
    (s.status = .running ∧ s.halted = false ∧ s.phase = .betweenFrames ∧ s.paused = false) ∧
    (let t := { s with cyc := 16665, phase := .firstHalf }
     t.status = .running ∧ t.halted = false ∧ t.phase = .firstHalf ∧ t.cyc < 16666) ∧
    (let t := { s with cyc := 33332, phase := .secondHalf }
     t.status = .running ∧ t.halted = false ∧ t.phase = .secondHalf ∧ t.cyc < 33333) := by decide

/-- SchedulerOffersAtThresholds, each clause, at the boundary. -/
theorem witness_scheduler_clauses :
    (let t := { start with cyc := 16666, phase := .firstHalf }
     t.status = .running ∧ t.phase = .firstHalf ∧ 16666 ≤ t.cyc) ∧
    (let t := { start with cyc := 33333, phase := .secondHalf }
     t.status = .running ∧ t.phase = .secondHalf ∧ 33333 ≤ t.cyc) ∧
    (let t := { start with cyc := 16665, phase := .firstHalf, halted := true }
     t.status = .running ∧ t.halted = true ∧ t.phase = .firstHalf ∧ t.cyc < 16666) ∧
    (let t := { start with cyc := 33332, phase := .secondHalf, halted := true }
     t.status = .running ∧ t.halted = true ∧ t.phase = .secondHalf ∧ t.cyc < 33333) := by decide

/-- ExecuteOneCases: a faulted, a halted and a running state, and a call that costs 18. -/
theorem witness_execute_one :
    executeOne { start with status := .faulted 0x08 0x0100 } = .fault (.faulted 0x08 0x0100) ∧
    nextWith (executeOne { start with halted := true }) (fun t => t.cyc == 4) = true ∧
    nextWith (executeOne (put start 0x0100 [0xE3])) (fun t => t.cyc == 18 && decide (t.status = .running)) = true := by
  refine ⟨rfl, ?_, ?_⟩ <;> decide

/-- FaultedStateIsFinal and UndocumentedByteFaults. -/
theorem witness_faulted : (State.raiseUnsupported start 0x08).status = .faulted 0x08 0x0100 := rfl

/-- The clauses about UNDOC_POLICY = alias. -/
theorem witness_aliasing : aliasing.undocPolicy = .aliases := rfl

/-- The premise MemoryCanonical, with bytes listed; ReadAfterWrite with two addresses. -/
theorem witness_canonical : MemoryCanonical (put start 0xFFFE [0x01, 0x02]) ∧ (0x0000 : Word) ≠ 0xFFFF := by decide

/-- StepKeepsMemoryCanonical, StepKeepsFrameCount, StepKeepsFaultRecord: a state that meets the three
invariants and steps to a next state. -/
theorem witness_invariants :
    let s := put { start with sp := 0x2400, cyc := 16665, phase := .firstHalf } 0x0100 [0xCD, 0x00, 0x02]
    MemoryCanonical s ∧ FrameCountFits s ∧ FaultRecordTrue s ∧
      nextWith (step s) (fun t => t.cyc == 16682) = true := by decide

/-- FaultRecordTrue of a faulted state. -/
theorem witness_fault_record :
    FaultRecordTrue (State.raiseUnsupported (put start 0x0100 [0x08]) 0x08) := by decide

/-- FrameReturnsWithinBounds and PausedFrameChangesNothing. -/
theorem witness_frame : start.status = .running ∧ start.paused = false ∧ start.phase = .betweenFrames := by decide

/-- ResetMeetsTheInvariants and HostMovesKeepTheInvariants: canonical unspecified memory, and a move of the
host that answers a next state. -/
theorem witness_unspecified : Memory.wf (Unspecified.fill 0).mem = true ∧
    nextWith (hostStep .pause start) (fun t => t.paused) = true := by decide

/-- LaunchLeavesTheResetState at the least and the greatest length. -/
theorem witness_image : 8192 ≤ (List.replicate 8192 (0x00 : Byte)).length ∧
    (List.replicate 65536 (0x00 : Byte)).length ≤ 65536 :=
  ⟨Nat.le_of_eq List.length_replicate.symm, Nat.le_of_eq List.length_replicate⟩

/-- SetInputBitIsLocal, each clause at its boundary. -/
theorem witness_input_bit :
    nextWith (start.setInputBit 1 7 true) (fun t => t.inp1 == 0x80) = true ∧
    nextWith (start.setInputBit 2 7 true) (fun t => t.inp2 == 0x80) = true ∧
    start.setInputBit 0 0 true = .refused (.badInputBit 0 0) ∧
    start.setInputBit 2 8 true = .refused (.badInputBit 2 8) := by
  refine ⟨?_, ?_, rfl, rfl⟩ <;> decide

/-- FramebufferShowsStores at the last index and one past it. -/
theorem witness_framebuffer :
    (match framebufferByte (put start 0x3FFF [0xA5]) 7167 with
      | .ok v => v == 0xA5
      | .error _ => false) = true ∧
    (match framebufferByte start 7168 with
      | .ok _ => false
      | .error r => r == .badFramebufferIndex 7168) = true := by
  constructor <;> decide

/-- InputFromPort and OutputToPort: a port of each clause. -/
theorem witness_ports :
    let s := { start with inp1 := 0x11, inp2 := 0x22, shift := 0xCDAB, shamt := 7 }
    s.readPort 1 = 0x11 ∧ s.readPort 2 = 0x22 ∧ s.readPort 3 = 0xD5 ∧ s.readPort 4 = 0x00 ∧
      (s.writePort 2 0x0B).shamt = 3 ∧ (s.writePort 4 0x0B).shift = 0x0BCD ∧ s.writePort 3 0x0B = s := by
  decide

/-- FlagWriters, ControlStateWriters, StackPointerAndMemoryWriters: for each clause an instruction that
changes what the clause is about. -/
theorem witness_writers :
    nextWith (exec .stc start) (fun t => decide (t.flags ≠ start.flags)) = true ∧
    nextWith (exec .ei start) (fun t => t.inte != start.inte) = true ∧
    nextWith (exec .hlt start) (fun t => t.halted != start.halted) = true ∧
    nextWith (exec .undoc08 start) (fun t => decide (t.status ≠ start.status)) = true ∧
    nextWith (exec (.outPort 4) { start with a := 1 }) (fun t => t.shift != start.shift) = true ∧
    nextWith (exec (.outPort 2) { start with a := 1 }) (fun t => t.shamt != start.shamt) = true ∧
    nextWith (exec .inxSp start) (fun t => t.sp != start.sp) = true ∧
    nextWith (exec (.sta 0) { start with a := 1 }) (fun t => decide (t.mem ≠ start.mem)) = true := by decide

/-- DecimalAdjust, each clause: both corrections, only the low, only the high, none (T74d, T74c, T74f,
T74b). -/
theorem witness_daa : daaOf 0x9A 0 0 = (0x00, bits 0 1 1 1 1) ∧ daaOf 0x0A 0 0 = (0x10, bits 0 0 1 0 0) ∧
    daaOf 0xA0 0 0 = (0x00, bits 0 1 0 1 1) ∧ daaOf 0x99 0 0 = (0x99, bits 1 0 0 1 0) := by decide

end Sys2Proof.Machine.Tests
end

section
/-! SUPPORT. What an instruction can do, said once: one rule per family of instructions. The proofs about
the whole instruction set are case analyses over these rules, not over the 256 first bytes. -/

namespace Sys2Proof.Machine

/-! ### Rules of the state's operations that the instruction families need -/

variable {s t : State}

/-- Writing a register pair moves SP only when the pair is SP (`10_state.md` R23). -/
theorem State.pair_eq_sp_of_setRp_sp_ne {p : Pair} {v : Word} (h : (s.setRp p v).sp ≠ s.sp) :
    p = .sp := by
  cases p with
  | sp => rfl
  | bc | de | hl => exact (h rfl).elim

@[simp] theorem State.setRp_sp_of_ne {p : Pair} (v : Word) (h : p ≠ .sp) : (s.setRp p v).sp = s.sp :=
  by_contra fun hne => h (State.pair_eq_sp_of_setRp_sp_ne hne)

/-- A pop writes the flags only when it pops PSW (`45_stack.md` R243, R244). -/
theorem State.pair_eq_psw_of_setStackPair_flags_ne {p : StackPair} {v : Word}
    (h : (s.setStackPair p v).flags ≠ s.flags) : p = .psw := by
  cases p with
  | psw => rfl
  | bc | de | hl => exact (h rfl).elim

/-- A port write changes the shifter and nothing else (`20_memory.md` R62 to R65). -/
theorem State.writePort_eq_shifter_update (s : State) (n v : Byte) :
    ∃ shift shamt, s.writePort n v = { s with shift, shamt } := by
  rw [State.writePort_eq]
  split
  · exact ⟨s.shift, v.setWidth 3, rfl⟩
  · split
    · exact ⟨pair v (hi s.shift), s.shamt, rfl⟩
    · exact ⟨s.shift, s.shamt, rfl⟩

@[simp] theorem State.writePort_sp (n v : Byte) : (s.writePort n v).sp = s.sp := by
  obtain ⟨_, _, h⟩ := s.writePort_eq_shifter_update n v; rw [h]
@[simp] theorem State.writePort_flags (n v : Byte) : (s.writePort n v).flags = s.flags := by
  obtain ⟨_, _, h⟩ := s.writePort_eq_shifter_update n v; rw [h]
@[simp] theorem State.writePort_inte (n v : Byte) : (s.writePort n v).inte = s.inte := by
  obtain ⟨_, _, h⟩ := s.writePort_eq_shifter_update n v; rw [h]
@[simp] theorem State.writePort_halted (n v : Byte) : (s.writePort n v).halted = s.halted := by
  obtain ⟨_, _, h⟩ := s.writePort_eq_shifter_update n v; rw [h]
@[simp] theorem State.writePort_status (n v : Byte) : (s.writePort n v).status = s.status := by
  obtain ⟨_, _, h⟩ := s.writePort_eq_shifter_update n v; rw [h]
@[simp] theorem State.writePort_mem (n v : Byte) : (s.writePort n v).mem = s.mem := by
  obtain ⟨_, _, h⟩ := s.writePort_eq_shifter_update n v; rw [h]
@[simp] theorem State.writePort_inp1 (n v : Byte) : (s.writePort n v).inp1 = s.inp1 := by
  obtain ⟨_, _, h⟩ := s.writePort_eq_shifter_update n v; rw [h]
@[simp] theorem State.writePort_inp2 (n v : Byte) : (s.writePort n v).inp2 = s.inp2 := by
  obtain ⟨_, _, h⟩ := s.writePort_eq_shifter_update n v; rw [h]
@[simp] theorem State.writePort_paused (n v : Byte) : (s.writePort n v).paused = s.paused := by
  obtain ⟨_, _, h⟩ := s.writePort_eq_shifter_update n v; rw [h]
@[simp] theorem State.writePort_phase (n v : Byte) : (s.writePort n v).phase = s.phase := by
  obtain ⟨_, _, h⟩ := s.writePort_eq_shifter_update n v; rw [h]

/-- SHIFT is written through port 4 alone (`20_memory.md` R64). -/
theorem State.port_eq_of_writePort_shift_ne {n v : Byte} (h : (s.writePort n v).shift ≠ s.shift) :
    n = 4 := by
  by_contra hn
  rw [State.writePort_eq, if_neg hn] at h
  split at h <;> exact h rfl

/-- SHAMT is written through port 2 alone (`20_memory.md` R65). -/
theorem State.port_eq_of_writePort_shamt_ne {n v : Byte} (h : (s.writePort n v).shamt ≠ s.shamt) :
    n = 2 := by
  by_contra hn
  rw [State.writePort_eq, if_neg hn] at h
  split at h <;> exact h rfl

/-! ### The rules of the instruction set -/

/-- `ExecRule s i answer`: one of the rules of the instruction set lets `i` answer `answer` in `s`. -/
inductive ExecRule (s : State) : Instr → Answer → Prop where
  -- data transfer (`40_data_transfer.md` R120 to R132)
  | mov (r1 r2 : Reg) : ExecRule s (.mov r1 r2) (.next ((s.setReg r1 (s.reg r2)).retire 1 5))
  | movFromM (r : Reg) : ExecRule s (.movFromM r) (.next ((s.setReg r s.readM).retire 1 7))
  | movToM (r : Reg) : ExecRule s (.movToM r) (.next ((s.writeByte s.hl (s.reg r)).retire 1 7))
  | mvi (r : Reg) (d8 : Byte) : ExecRule s (.mvi r d8) (.next ((s.setReg r d8).retire 2 7))
  | mviM (d8 : Byte) : ExecRule s (.mviM d8) (.next ((s.writeByte s.hl d8).retire 2 10))
  | lxi (p : Pair) (d16 : Word) : ExecRule s (.lxi p d16) (.next ((s.setRp p d16).retire 3 10))
  | lda (a16 : Word) : ExecRule s (.lda a16) (.next ((s.setReg .a (s.readByte a16)).retire 3 13))
  | sta (a16 : Word) : ExecRule s (.sta a16) (.next ((s.writeByte a16 s.a).retire 3 13))
  | lhld (a16 : Word) : ExecRule s (.lhld a16) (.next ((s.setRp .hl (s.readWord a16)).retire 3 16))
  | shld (a16 : Word) : ExecRule s (.shld a16)
      (.next (((s.writeByte a16 (lo s.hl)).writeByte (a16 + 1) (hi s.hl)).retire 3 16))
  | ldax (p : IndexPair) : ExecRule s (.ldax p)
      (.next ((s.setReg .a (s.readByte (s.indexPair p))).retire 1 7))
  | stax (p : IndexPair) : ExecRule s (.stax p) (.next ((s.writeByte (s.indexPair p) s.a).retire 1 7))
  | xchg : ExecRule s .xchg (.next (((s.setRp .hl (s.rp .de)).setRp .de s.hl).retire 1 4))
  -- 8-bit operations on A (`41_arithmetic.md` R142 to R153, `42_logical.md` R171 to R182)
  | aluReg (op : AluOp) (r : Reg) : ExecRule s (.aluReg op r) (aluWith op (s.reg r) 1 4 s)
  | aluM (op : AluOp) : ExecRule s (.aluM op) (aluWith op s.readM 1 7 s)
  | aluImm (op : AluOp) (d8 : Byte) : ExecRule s (.aluImm op d8) (aluWith op d8 2 7 s)
  -- other arithmetic (`41_arithmetic.md` R154 to R161)
  | inr (r : Reg) : ExecRule s (.inr r) (.next
      (((s.setReg r (inr8 (s.reg r) s.flags).1).setFlags (inr8 (s.reg r) s.flags).2).retire 1 5))
  | inrM : ExecRule s .inrM (.next
      (((s.writeByte s.hl (inr8 s.readM s.flags).1).setFlags (inr8 s.readM s.flags).2).retire 1 10))
  | dcr (r : Reg) : ExecRule s (.dcr r) (.next
      (((s.setReg r (dcr8 (s.reg r) s.flags).1).setFlags (dcr8 (s.reg r) s.flags).2).retire 1 5))
  | dcrM : ExecRule s .dcrM (.next
      (((s.writeByte s.hl (dcr8 s.readM s.flags).1).setFlags (dcr8 s.readM s.flags).2).retire 1 10))
  | inx (p : Pair) : ExecRule s (.inx p) (.next ((s.setRp p (s.rp p + 1)).retire 1 5))
  | dcx (p : Pair) : ExecRule s (.dcx p) (.next ((s.setRp p (s.rp p - 1)).retire 1 5))
  | dad (p : Pair) : ExecRule s (.dad p) (.next
      (((s.setRp .hl (dad16 s.hl (s.rp p)).1).setCy (dad16 s.hl (s.rp p)).2).retire 1 10))
  | daa : ExecRule s .daa (.next
      (((s.setReg .a (daa8 s.a s.flags).1).setFlags (daa8 s.a s.flags).2).retire 1 4))
  -- A and CY alone (`42_logical.md` R183 to R185, `43_rotate.md` R190 to R193)
  | cma : ExecRule s .cma (.next ((s.setReg .a (~~~s.a)).retire 1 4))
  | cmc : ExecRule s .cmc (.next ((s.setCy (!s.flags.cy)).retire 1 4))
  | stc : ExecRule s .stc (.next ((s.setCy true).retire 1 4))
  | rlc : ExecRule s .rlc (rotateTo (rlc8 s.a) s)
  | rrc : ExecRule s .rrc (rotateTo (rrc8 s.a) s)
  | ral : ExecRule s .ral (rotateTo (ral8 s.a s.flags.cy) s)
  | rar : ExecRule s .rar (rotateTo (rar8 s.a s.flags.cy) s)
  -- the stack (`45_stack.md` R241 to R246)
  | push (p : StackPair) : ExecRule s (.push p) (.next ((s.push16 (s.stackPair p)).retire 1 11))
  | pop (p : StackPair) : ExecRule s (.pop p) (.next ((s.dropTop.setStackPair p s.top16).retire 1 10))
  | xthl : ExecRule s .xthl (.next
      ((((s.writeByte (s.sp + 1) s.h).writeByte s.sp s.l).setRp .hl s.top16).retire 1 18))
  | sphl : ExecRule s .sphl (.next ((s.setRp .sp s.hl).retire 1 5))
  -- control transfer (`44_branch.md` R201 to R229)
  | jmp (a16 : Word) : ExecRule s (.jmp a16) (.next (s.jump a16 10))
  | jumpIfTaken (cc : Cond) (a16 : Word) (h : condition cc s.flags = true) :
      ExecRule s (.jumpIf cc a16) (.next (s.jump a16 10))
  | jumpIfNotTaken (cc : Cond) (a16 : Word) (h : condition cc s.flags = false) :
      ExecRule s (.jumpIf cc a16) (.next (s.retire 3 10))
  | call (a16 : Word) : ExecRule s (.call a16) (.next ((s.push16 (s.pc + 3)).jump a16 17))
  | callIfTaken (cc : Cond) (a16 : Word) (h : condition cc s.flags = true) :
      ExecRule s (.callIf cc a16) (.next ((s.push16 (s.pc + 3)).jump a16 17))
  | callIfNotTaken (cc : Cond) (a16 : Word) (h : condition cc s.flags = false) :
      ExecRule s (.callIf cc a16) (.next (s.retire 3 11))
  | ret : ExecRule s .ret (.next (s.dropTop.jump s.top16 10))
  | retIfTaken (cc : Cond) (h : condition cc s.flags = true) :
      ExecRule s (.retIf cc) (.next (s.dropTop.jump s.top16 11))
  | retIfNotTaken (cc : Cond) (h : condition cc s.flags = false) :
      ExecRule s (.retIf cc) (.next (s.retire 1 5))
  | rst (n : Fin 8) : ExecRule s (.rst n) (.next ((s.push16 (s.pc + 1)).jump (restartAddress n) 11))
  | pchl : ExecRule s .pchl (.next (s.jump s.hl 5))
  -- input, output and machine control (`46_io_control.md` R255 to R260)
  | inPort (port : Byte) : ExecRule s (.inPort port) (.next ((s.setReg .a (s.readPort port)).retire 2 10))
  | outPort (port : Byte) : ExecRule s (.outPort port) (.next ((s.writePort port s.a).retire 2 10))
  | ei : ExecRule s .ei (.next (State.retire { s with inte := true } 1 4))
  | di : ExecRule s .di (.next (State.retire { s with inte := false } 1 4))
  | hlt : ExecRule s .hlt (.next (State.retire { s with halted := true } 1 7))
  | nop : ExecRule s .nop (.next (s.retire 1 4))
  -- the undocumented first bytes (`30_encoding.md` R101, `60_exceptions.md` R270)
  | undocumented {i : Instr} {opcode : Byte} (hdoc : i.documented = false) (henc : encode i = [opcode]) :
      ExecRule s i (.next (s.raiseUnsupported opcode))

theorem execRule_jumpIf (s : State) (cc : Cond) (a16 : Word) :
    ExecRule s (.jumpIf cc a16) (jumpIf cc a16 s) := by
  unfold jumpIf
  cases h : condition cc s.flags with
  | true => exact .jumpIfTaken cc a16 h
  | false => exact .jumpIfNotTaken cc a16 h

theorem execRule_callIf (s : State) (cc : Cond) (a16 : Word) :
    ExecRule s (.callIf cc a16) (callIf cc a16 s) := by
  unfold callIf
  cases h : condition cc s.flags with
  | true => exact .callIfTaken cc a16 h
  | false => exact .callIfNotTaken cc a16 h

theorem execRule_retIf (s : State) (cc : Cond) : ExecRule s (.retIf cc) (returnIf cc s) := by
  unfold returnIf
  cases h : condition cc s.flags with
  | true => exact .retIfTaken cc h
  | false => exact .retIfNotTaken cc h

/-- The dispatch follows the rules: each first byte runs the rule of its family. -/
theorem execRule_exec (s : State) : ∀ i : Instr, ExecRule s i (exec i s)
  | .nop => .nop
  | .movBB => .mov .b .b | .movBC => .mov .b .c | .movBD => .mov .b .d | .movBE => .mov .b .e
  | .movBH => .mov .b .h | .movBL => .mov .b .l | .movBA => .mov .b .a
  | .movCB => .mov .c .b | .movCC => .mov .c .c | .movCD => .mov .c .d | .movCE => .mov .c .e
  | .movCH => .mov .c .h | .movCL => .mov .c .l | .movCA => .mov .c .a
  | .movDB => .mov .d .b | .movDC => .mov .d .c | .movDD => .mov .d .d | .movDE => .mov .d .e
  | .movDH => .mov .d .h | .movDL => .mov .d .l | .movDA => .mov .d .a
  | .movEB => .mov .e .b | .movEC => .mov .e .c | .movED => .mov .e .d | .movEE => .mov .e .e
  | .movEH => .mov .e .h | .movEL => .mov .e .l | .movEA => .mov .e .a
  | .movHB => .mov .h .b | .movHC => .mov .h .c | .movHD => .mov .h .d | .movHE => .mov .h .e
  | .movHH => .mov .h .h | .movHL => .mov .h .l | .movHA => .mov .h .a
  | .movLB => .mov .l .b | .movLC => .mov .l .c | .movLD => .mov .l .d | .movLE => .mov .l .e
  | .movLH => .mov .l .h | .movLL => .mov .l .l | .movLA => .mov .l .a
  | .movAB => .mov .a .b | .movAC => .mov .a .c | .movAD => .mov .a .d | .movAE => .mov .a .e
  | .movAH => .mov .a .h | .movAL => .mov .a .l | .movAA => .mov .a .a
  | .movBM => .movFromM .b | .movCM => .movFromM .c | .movDM => .movFromM .d | .movEM => .movFromM .e
  | .movHM => .movFromM .h | .movLM => .movFromM .l | .movAM => .movFromM .a
  | .movMB => .movToM .b | .movMC => .movToM .c | .movMD => .movToM .d | .movME => .movToM .e
  | .movMH => .movToM .h | .movML => .movToM .l | .movMA => .movToM .a
  | .mviB d8 => .mvi .b d8 | .mviC d8 => .mvi .c d8 | .mviD d8 => .mvi .d d8 | .mviE d8 => .mvi .e d8
  | .mviH d8 => .mvi .h d8 | .mviL d8 => .mvi .l d8 | .mviA d8 => .mvi .a d8 | .mviM d8 => .mviM d8
  | .lxiB d16 => .lxi .bc d16 | .lxiD d16 => .lxi .de d16 | .lxiH d16 => .lxi .hl d16 | .lxiSp d16 => .lxi .sp d16
  | .lda a16 => .lda a16 | .sta a16 => .sta a16 | .lhld a16 => .lhld a16 | .shld a16 => .shld a16
  | .ldaxB => .ldax .bc | .ldaxD => .ldax .de | .staxB => .stax .bc | .staxD => .stax .de | .xchg => .xchg
  | .addB => .aluReg .add .b | .addC => .aluReg .add .c | .addD => .aluReg .add .d | .addE => .aluReg .add .e
  | .addH => .aluReg .add .h | .addL => .aluReg .add .l | .addA => .aluReg .add .a | .addM => .aluM .add
  | .adcB => .aluReg .adc .b | .adcC => .aluReg .adc .c | .adcD => .aluReg .adc .d | .adcE => .aluReg .adc .e
  | .adcH => .aluReg .adc .h | .adcL => .aluReg .adc .l | .adcA => .aluReg .adc .a | .adcM => .aluM .adc
  | .subB => .aluReg .sub .b | .subC => .aluReg .sub .c | .subD => .aluReg .sub .d | .subE => .aluReg .sub .e
  | .subH => .aluReg .sub .h | .subL => .aluReg .sub .l | .subA => .aluReg .sub .a | .subM => .aluM .sub
  | .sbbB => .aluReg .sbb .b | .sbbC => .aluReg .sbb .c | .sbbD => .aluReg .sbb .d | .sbbE => .aluReg .sbb .e
  | .sbbH => .aluReg .sbb .h | .sbbL => .aluReg .sbb .l | .sbbA => .aluReg .sbb .a | .sbbM => .aluM .sbb
  | .anaB => .aluReg .ana .b | .anaC => .aluReg .ana .c | .anaD => .aluReg .ana .d | .anaE => .aluReg .ana .e
  | .anaH => .aluReg .ana .h | .anaL => .aluReg .ana .l | .anaA => .aluReg .ana .a | .anaM => .aluM .ana
  | .xraB => .aluReg .xra .b | .xraC => .aluReg .xra .c | .xraD => .aluReg .xra .d | .xraE => .aluReg .xra .e
  | .xraH => .aluReg .xra .h | .xraL => .aluReg .xra .l | .xraA => .aluReg .xra .a | .xraM => .aluM .xra
  | .oraB => .aluReg .ora .b | .oraC => .aluReg .ora .c | .oraD => .aluReg .ora .d | .oraE => .aluReg .ora .e
  | .oraH => .aluReg .ora .h | .oraL => .aluReg .ora .l | .oraA => .aluReg .ora .a | .oraM => .aluM .ora
  | .cmpB => .aluReg .cmp .b | .cmpC => .aluReg .cmp .c | .cmpD => .aluReg .cmp .d | .cmpE => .aluReg .cmp .e
  | .cmpH => .aluReg .cmp .h | .cmpL => .aluReg .cmp .l | .cmpA => .aluReg .cmp .a | .cmpM => .aluM .cmp
  | .adi d8 => .aluImm .add d8 | .aci d8 => .aluImm .adc d8 | .sui d8 => .aluImm .sub d8
  | .sbi d8 => .aluImm .sbb d8 | .ani d8 => .aluImm .ana d8 | .xri d8 => .aluImm .xra d8
  | .ori d8 => .aluImm .ora d8 | .cpi d8 => .aluImm .cmp d8
  | .inrB => .inr .b | .inrC => .inr .c | .inrD => .inr .d | .inrE => .inr .e
  | .inrH => .inr .h | .inrL => .inr .l | .inrA => .inr .a | .inrM => .inrM
  | .dcrB => .dcr .b | .dcrC => .dcr .c | .dcrD => .dcr .d | .dcrE => .dcr .e
  | .dcrH => .dcr .h | .dcrL => .dcr .l | .dcrA => .dcr .a | .dcrM => .dcrM
  | .inxB => .inx .bc | .inxD => .inx .de | .inxH => .inx .hl | .inxSp => .inx .sp
  | .dcxB => .dcx .bc | .dcxD => .dcx .de | .dcxH => .dcx .hl | .dcxSp => .dcx .sp
  | .dadB => .dad .bc | .dadD => .dad .de | .dadH => .dad .hl | .dadSp => .dad .sp
  | .daa => .daa | .cma => .cma | .cmc => .cmc | .stc => .stc
  | .rlc => .rlc | .rrc => .rrc | .ral => .ral | .rar => .rar
  | .pushB => .push .bc | .pushD => .push .de | .pushH => .push .hl | .pushPsw => .push .psw
  | .popB => .pop .bc | .popD => .pop .de | .popH => .pop .hl | .popPsw => .pop .psw
  | .xthl => .xthl | .sphl => .sphl
  | .jmp a16 => .jmp a16
  | .jnz a16 => execRule_jumpIf s .nz a16 | .jz a16 => execRule_jumpIf s .z a16
  | .jnc a16 => execRule_jumpIf s .nc a16 | .jc a16 => execRule_jumpIf s .c a16
  | .jpo a16 => execRule_jumpIf s .po a16 | .jpe a16 => execRule_jumpIf s .pe a16
  | .jp a16 => execRule_jumpIf s .p a16 | .jm a16 => execRule_jumpIf s .m a16
  | .call a16 => .call a16
  | .cnz a16 => execRule_callIf s .nz a16 | .cz a16 => execRule_callIf s .z a16
  | .cnc a16 => execRule_callIf s .nc a16 | .cc a16 => execRule_callIf s .c a16
  | .cpo a16 => execRule_callIf s .po a16 | .cpe a16 => execRule_callIf s .pe a16
  | .cp a16 => execRule_callIf s .p a16 | .cm a16 => execRule_callIf s .m a16
  | .ret => .ret
  | .rnz => execRule_retIf s .nz | .rz => execRule_retIf s .z
  | .rnc => execRule_retIf s .nc | .rc => execRule_retIf s .c
  | .rpo => execRule_retIf s .po | .rpe => execRule_retIf s .pe
  | .rp => execRule_retIf s .p | .rm => execRule_retIf s .m
  | .rst0 => .rst 0 | .rst1 => .rst 1 | .rst2 => .rst 2 | .rst3 => .rst 3
  | .rst4 => .rst 4 | .rst5 => .rst 5 | .rst6 => .rst 6 | .rst7 => .rst 7
  | .pchl => .pchl
  | .inPort port => .inPort port | .outPort port => .outPort port
  | .ei => .ei | .di => .di | .hlt => .hlt
  | .undoc08 => .undocumented rfl rfl | .undoc10 => .undocumented rfl rfl
  | .undoc18 => .undocumented rfl rfl | .undoc20 => .undocumented rfl rfl
  | .undoc28 => .undocumented rfl rfl | .undoc30 => .undocumented rfl rfl
  | .undoc38 => .undocumented rfl rfl | .undocCB => .undocumented rfl rfl
  | .undocD9 => .undocumented rfl rfl | .undocDD => .undocumented rfl rfl
  | .undocED => .undocumented rfl rfl | .undocFD => .undocumented rfl rfl

/-- Inversion of `exec`: an instruction that answers a next state followed one of the rules. -/
theorem execRule_of_exec {i : Instr} (h : exec i s = .next t) : ExecRule s i (.next t) :=
  h ▸ execRule_exec s i

end Sys2Proof.Machine
end

section
/-! SUPPORT. Which instructions write which part of the state: for each part, the families whose rule
writes it; every other rule keeps it. -/

namespace Sys2Proof.Machine

variable {s t : State} {i : Instr}

/-- The flag writers (`10_state.md` R27). -/
theorem flags_writers (h : exec i s = .next t) (hne : t.flags ≠ s.flags) :
    (∃ op r, i = Instr.aluReg op r) ∨ (∃ op, i = Instr.aluM op) ∨ (∃ op d8, i = Instr.aluImm op d8) ∨
    (∃ r, i = Instr.inr r) ∨ (∃ r, i = Instr.dcr r) ∨ (∃ p, i = Instr.dad p) ∨
    i ∈ ([.inrM, .dcrM, .daa, .rlc, .rrc, .ral, .rar, .stc, .cmc, .popPsw] : List Instr) := by
  cases execRule_of_exec h with
  | aluReg op r => exact .inl ⟨op, r, rfl⟩
  | aluM op => exact .inr (.inl ⟨op, rfl⟩)
  | aluImm op d8 => exact .inr (.inr (.inl ⟨op, d8, rfl⟩))
  | inr r => exact .inr (.inr (.inr (.inl ⟨r, rfl⟩)))
  | dcr r => exact .inr (.inr (.inr (.inr (.inl ⟨r, rfl⟩))))
  | dad p => exact .inr (.inr (.inr (.inr (.inr (.inl ⟨p, rfl⟩)))))
  | inrM | dcrM | daa | rlc | rrc | ral | rar | stc | cmc =>
    exact .inr (.inr (.inr (.inr (.inr (.inr (by decide))))))
  | pop p =>
    obtain rfl := State.pair_eq_psw_of_setStackPair_flags_ne (s := s.dropTop) hne
    exact .inr (.inr (.inr (.inr (.inr (.inr (by decide))))))
  | _ => exact (hne (by simp)).elim

/-- The writers of INTE (`10_state.md` R29). -/
theorem inte_writers (h : exec i s = .next t) (hne : t.inte ≠ s.inte) : i = .ei ∨ i = .di := by
  cases execRule_of_exec h with
  | ei => exact .inl rfl
  | di => exact .inr rfl
  | _ => exact (hne (by simp)).elim

/-- The writer of HALTED (`10_state.md` R30). -/
theorem halted_writers (h : exec i s = .next t) (hne : t.halted ≠ s.halted) : i = .hlt := by
  cases execRule_of_exec h with
  | hlt => rfl
  | _ => exact (hne (by simp)).elim

/-- The writers of STATUS (`10_state.md` R31). -/
theorem status_writers (h : exec i s = .next t) (hne : t.status ≠ s.status) : ¬ i.WellFormed := by
  cases execRule_of_exec h with
  | undocumented hdoc _ => simp [hdoc]
  | _ => exact (hne (by simp)).elim

/-- The writer of SHIFT (`10_state.md` R35). -/
theorem shift_writers (h : exec i s = .next t) (hne : t.shift ≠ s.shift) : i = .outPort 4 := by
  cases execRule_of_exec h with
  | outPort port => rw [State.port_eq_of_writePort_shift_ne hne]
  | _ => exact (hne (by simp)).elim

/-- The writer of SHAMT (`10_state.md` R35). -/
theorem shamt_writers (h : exec i s = .next t) (hne : t.shamt ≠ s.shamt) : i = .outPort 2 := by
  cases execRule_of_exec h with
  | outPort port => rw [State.port_eq_of_writePort_shamt_ne hne]
  | _ => exact (hne (by simp)).elim

/-- No instruction writes the input ports, PAUSED or the scheduler's position (`10_state.md` R35, R36). -/
theorem exec_keeps_host_state (h : exec i s = .next t) :
    t.inp1 = s.inp1 ∧ t.inp2 = s.inp2 ∧ t.paused = s.paused ∧ t.phase = s.phase := by
  cases execRule_of_exec h with
  | _ => simp

/-- The writers of SP (`10_state.md` R41). -/
theorem sp_writers (h : exec i s = .next t) (hne : t.sp ≠ s.sp) :
    (∃ d16, i = .lxiSp d16) ∨ i ∈ ([.inxSp, .dcxSp, .sphl, .ret] : List Instr) ∨
    (∃ p, i = Instr.push p) ∨ (∃ p, i = Instr.pop p) ∨ (∃ a16, i = .call a16) ∨
    (∃ cc a16, i = Instr.callIf cc a16) ∨ (∃ cc, i = Instr.retIf cc) ∨ (∃ n, i = Instr.rst n) := by
  cases execRule_of_exec h with
  | lxi p d16 =>
    obtain rfl := State.pair_eq_sp_of_setRp_sp_ne hne
    exact .inl ⟨d16, rfl⟩
  | inx p | dcx p =>
    obtain rfl := State.pair_eq_sp_of_setRp_sp_ne hne
    exact .inr (.inl (by decide))
  | sphl | ret => exact .inr (.inl (by decide))
  | push p => exact .inr (.inr (.inl ⟨p, rfl⟩))
  | pop p => exact .inr (.inr (.inr (.inl ⟨p, rfl⟩)))
  | call a16 => exact .inr (.inr (.inr (.inr (.inl ⟨a16, rfl⟩))))
  | callIfTaken cc a16 => exact .inr (.inr (.inr (.inr (.inr (.inl ⟨cc, a16, rfl⟩)))))
  | retIfTaken cc => exact .inr (.inr (.inr (.inr (.inr (.inr (.inl ⟨cc, rfl⟩))))))
  | rst n => exact .inr (.inr (.inr (.inr (.inr (.inr (.inr ⟨n, rfl⟩))))))
  | _ => exact (hne (by simp)).elim

/-- The writers of memory (`20_memory.md` R58). -/
theorem mem_writers (h : exec i s = .next t) (hne : t.mem ≠ s.mem) :
    (∃ r, i = Instr.movToM r) ∨ (∃ d8, i = .mviM d8) ∨ (∃ a16, i = .sta a16) ∨
    (∃ a16, i = .shld a16) ∨ (∃ p, i = Instr.stax p) ∨
    i ∈ ([.inrM, .dcrM, .xthl] : List Instr) ∨ (∃ p, i = Instr.push p) ∨
    (∃ a16, i = .call a16) ∨ (∃ cc a16, i = Instr.callIf cc a16) ∨ (∃ n, i = Instr.rst n) := by
  cases execRule_of_exec h with
  | movToM r => exact .inl ⟨r, rfl⟩
  | mviM d8 => exact .inr (.inl ⟨d8, rfl⟩)
  | sta a16 => exact .inr (.inr (.inl ⟨a16, rfl⟩))
  | shld a16 => exact .inr (.inr (.inr (.inl ⟨a16, rfl⟩)))
  | stax p => exact .inr (.inr (.inr (.inr (.inl ⟨p, rfl⟩))))
  | inrM | dcrM | xthl => exact .inr (.inr (.inr (.inr (.inr (.inl (by decide))))))
  | push p => exact .inr (.inr (.inr (.inr (.inr (.inr (.inl ⟨p, rfl⟩))))))
  | call a16 => exact .inr (.inr (.inr (.inr (.inr (.inr (.inr (.inl ⟨a16, rfl⟩)))))))
  | callIfTaken cc a16 =>
    exact .inr (.inr (.inr (.inr (.inr (.inr (.inr (.inr (.inl ⟨cc, a16, rfl⟩))))))))
  | rst n => exact .inr (.inr (.inr (.inr (.inr (.inr (.inr (.inr (.inr ⟨n, rfl⟩))))))))
  | _ => exact (hne (by simp)).elim

end Sys2Proof.Machine
end

section
/-! SUPPORT. Memory after a load, and the state a launch leaves. -/

namespace Sys2Proof.Machine

/-- Loading touches no address below the first one (`20_memory.md` R57). -/
theorem Memory.read_load_below : ∀ (bytes : List Byte) {m : Memory} {first addr : Nat},
    first + bytes.length ≤ 65536 → Memory.wf m = true → addr < first →
    Memory.read (Memory.load m first bytes) addr = Memory.read m addr
  | [], _, _, _, _, _, _ => rfl
  | v :: vs, m, first, addr, hfit, hm, hlt => by
    rw [List.length_cons] at hfit
    calc Memory.read (Memory.load (Memory.write m first v) (first + 1) vs) addr
        = Memory.read (Memory.write m first v) addr :=
          Memory.read_load_below vs (by omega) (Memory.wf_write v (by omega) hm) (by omega)
      _ = Memory.read m addr := Memory.read_write_other v (by omega) hm

/-- After a load, byte `k` from the first address is byte `k` of the image, or what stood there before
where the image has no such byte (`20_memory.md` R57). -/
theorem Memory.read_load : ∀ (bytes : List Byte) {m : Memory} {first : Nat} (k : Nat),
    first + bytes.length ≤ 65536 → Memory.wf m = true →
    Memory.read (Memory.load m first bytes) (first + k) = bytes[k]?.getD (Memory.read m (first + k))
  | [], _, _, _, _, _ => rfl
  | v :: vs, m, first, k, hfit, hm => by
    rw [List.length_cons] at hfit
    have hm' : Memory.wf (Memory.write m first v) = true := Memory.wf_write v (by omega) hm
    cases k with
    | zero =>
      calc Memory.read (Memory.load (Memory.write m first v) (first + 1) vs) first
          = Memory.read (Memory.write m first v) first :=
            Memory.read_load_below vs (by omega) hm' (by omega)
        _ = v := Memory.read_write_same first v hm
    | succ k =>
      have hread : Memory.read (Memory.write m first v) (first + (k + 1)) =
          Memory.read m (first + (k + 1)) := Memory.read_write_other v (by omega) hm
      have ih := Memory.read_load vs (first := first + 1) k (by omega) hm'
      rw [Nat.add_right_comm first 1 k] at ih
      rw [List.getElem?_cons_succ, ← hread]
      exact ih

/-- The flag byte of five clear flags has only its fixed bit 1 set (`10_state.md` R28). -/
theorem flagByte_clear :
    flagByte { s := false, z := false, ac := false, p := false, cy := false } = 0x02 := by decide

/-- A launch with an image that is long enough and fits is the reset state with the image loaded at 0
(`70_reset_and_hazards.md` R310). -/
theorem launch_eq_next {cfg : Config} {image : List Byte} (u : Unspecified)
    (hlong : cfg.romSize ≤ image.length) (hfit : image.length ≤ 65536) :
    launch cfg u image =
      .next { State.resetWith cfg u with mem := Memory.load u.mem 0 image } := by
  rw [launch, if_neg (by omega), State.loadImage, if_pos (by omega)]
  rfl

end Sys2Proof.Machine
end

section
/-! SUPPORT. The statements about the state (`10_state.md`), settled. -/

namespace Sys2Proof.Machine

/-- Settles O57: the rules of the instruction set, family by family. -/
theorem flagWriters : Obligations.FlagWriters :=
  fun _ _ _ h hne => flags_writers h hne

/-- Settles O58: each part of the control and device state has its own writers. -/
theorem controlStateWriters : Obligations.ControlStateWriters :=
  fun _ _ _ h => ⟨inte_writers h, halted_writers h, status_writers h, shift_writers h, shamt_writers h,
    exec_keeps_host_state h⟩

/-- Settles O59: the writers of SP and the writers of memory. -/
theorem stackPointerAndMemoryWriters : Obligations.StackPointerAndMemoryWriters :=
  fun _ _ _ h => ⟨sp_writers h, mem_writers h⟩

/-- Settles O51: a launch is the reset state with the image loaded, and a load is read back byte by
byte. -/
theorem launchLeavesTheResetState : Obligations.LaunchLeavesTheResetState := by
  intro u image hwf hlong hfit
  refine ⟨_, launch_eq_next u hlong hfit, rfl, rfl, rfl, flagByte_clear, rfl, rfl, rfl, rfl, rfl, rfl,
    rfl, rfl, rfl, rfl, rfl, rfl, rfl, rfl, rfl, rfl, fun addr => ?_⟩
  have hread := Memory.read_load image (first := 0) addr.toNat (by omega) hwf
  rw [Nat.zero_add] at hread
  rw [State.readByte, hread]
  split
  · next hin => rw [List.getElem?_eq_getElem hin, Option.getD_some]
  · next hout => rw [List.getElem?_eq_none (by omega), Option.getD_none]

/-- Settles O49: memory is the canonical one chosen, the count is 0 between frames, STATUS is Running. -/
theorem resetMeetsTheInvariants : Obligations.ResetMeetsTheInvariants :=
  fun _ hwf => ⟨hwf, rfl, rfl⟩

end Sys2Proof.Machine
end

section
/-! SUPPORT. Memory stays canonical: every instruction, every interrupt, every step keeps the form
(`20_memory.md` R51, R56). -/

namespace Sys2Proof.Machine

variable {s t : State} {i : Instr}

/-- Every instruction keeps memory canonical: those that store, by the rule of their store; the others
leave memory alone. -/
theorem exec_keeps_memoryCanonical (h : exec i s = .next t) (hs : MemoryCanonical s) :
    MemoryCanonical t := by
  cases execRule_of_exec h with
  | movToM | mviM | sta | stax | inrM | dcrM => exact State.wf_writeByte _ _ hs
  | shld a16 => exact State.wf_writeWord a16 s.hl hs
  | push | call | callIfTaken | rst => exact State.wf_push16 _ hs
  | xthl => exact State.wf_writeByte _ _ (State.wf_writeByte (s.sp + 1) s.h hs)
  | _ => simpa [MemoryCanonical] using hs

/-- An `execute_one` call runs an instruction or idles (`60_exceptions.md` R283). -/
theorem executeOne_keeps_memoryCanonical (h : executeOne s = .next t) (hs : MemoryCanonical s) :
    MemoryCanonical t := by
  obtain ⟨-, ⟨-, rfl⟩ | ⟨-, hexec⟩⟩ := executeOne_cases h
  · exact hs
  · exact exec_keeps_memoryCanonical hexec hs

/-- An interrupt stores only by its push (`60_exceptions.md` R276). -/
theorem State.wf_interrupt (n : Fin 8) (hs : MemoryCanonical s) : MemoryCanonical (s.interrupt n) := by
  obtain ⟨-, heq⟩ | ⟨-, heq⟩ := s.interrupt_cases n <;> rw [heq]
  · exact State.wf_push16 _ hs
  · exact hs

theorem State.wf_offerInterrupt (n : Fin 8) (hs : MemoryCanonical s) :
    MemoryCanonical (s.offerInterrupt Config.hardware n) := by
  rw [State.offerInterrupt_eq]
  exact State.wf_interrupt n hs

theorem firstHalfTurn_keeps_memoryCanonical (h : firstHalfTurn Config.hardware s = .next t)
    (hs : MemoryCanonical s) : MemoryCanonical t := by
  obtain ⟨-, hexec⟩ | ⟨-, rfl⟩ := firstHalfTurn_cases h
  · exact executeOne_keeps_memoryCanonical hexec hs
  · exact State.wf_offerInterrupt 1 hs

theorem secondHalfTurn_keeps_memoryCanonical (h : secondHalfTurn Config.hardware s = .next t)
    (hs : MemoryCanonical s) : MemoryCanonical t := by
  obtain ⟨-, hexec⟩ | ⟨-, rfl⟩ := secondHalfTurn_cases h
  · exact executeOne_keeps_memoryCanonical hexec hs
  · exact State.wf_offerInterrupt 2 hs

/-- Settles O46: a step is a frozen frame or a turn of one of the two loops. -/
theorem stepKeepsMemoryCanonical : Obligations.StepKeepsMemoryCanonical := by
  intro s t hs h
  obtain ⟨-, ⟨-, -, rfl⟩ | ⟨-, -, hturn⟩ | ⟨-, hturn⟩ | ⟨-, hturn⟩⟩ := schedulerStep_cases h
  · exact hs
  · exact firstHalfTurn_keeps_memoryCanonical (s := s.startFrame) hturn hs
  · exact firstHalfTurn_keeps_memoryCanonical hturn hs
  · exact secondHalfTurn_keeps_memoryCanonical hturn hs

end Sys2Proof.Machine
end

section
/-! SUPPORT. Memory as the program and the host see it: a read after a write, the fetch after a store, the
framebuffer (`20_memory.md` R51, R55, R56, R67, R77). -/

namespace Sys2Proof.Machine

/-- Settles O55, by the laws of memory. -/
theorem readAfterWrite : Obligations.ReadAfterWrite :=
  fun _ addr _ v hs => ⟨State.readByte_writeByte_same addr v hs,
    fun hne => State.readByte_writeByte_other v hne hs, State.wf_writeByte addr v hs⟩

/-- A fetch decodes the byte at PC, with some operand bytes (`30_encoding.md` R105). -/
theorem State.fetch_eq_decodeOp (s : State) : ∃ b2 b3, s.fetch = decodeOp (s.readByte s.pc) b2 b3 :=
  ⟨_, _, rfl⟩

/-- Settles O56: after the store PC is at the address stored to, so the byte read there is A. -/
theorem storeIsSeenByNextFetch : Obligations.StoreIsSeenByNextFetch := by
  intro s hs
  let t := (s.writeByte (s.pc + 3) s.a).retire 3 13
  obtain ⟨b2, b3, hfetch⟩ := t.fetch_eq_decodeOp
  have hread : t.readByte t.pc = s.a := State.readByte_writeByte_same (s.pc + 3) s.a hs
  exact ⟨t, b2, b3, rfl, hread ▸ hfetch⟩

/-- `framebuffer_byte(index)` reads the byte at VRAM_BASE + index (`20_memory.md` R67). -/
theorem framebufferByte_eq_readByte {index : Nat} (s : State) (h : index < 7168) :
    framebufferByte s index = .ok (s.readByte (BitVec.ofNat 16 (0x2400 + index))) := by
  have haddr : (BitVec.ofNat 16 (0x2400 + index)).toNat = 0x2400 + index :=
    Nat.mod_eq_of_lt (by omega)
  rw [State.readByte, haddr]
  exact if_pos h

/-- Settles O54: the framebuffer reads memory. -/
theorem framebufferShowsStores : Obligations.FramebufferShowsStores := by
  intro s index v hs
  constructor
  · intro hin
    rw [framebufferByte_eq_readByte _ hin, State.readByte_writeByte_same _ v hs]
  · intro hout
    exact if_neg (Nat.not_lt.mpr hout)

end Sys2Proof.Machine
end

section
/-! SUPPORT. The frame of an instruction, one rule per update of the state: an update keeps what `Keeps`
says is kept when the part it writes is listed. -/

namespace Sys2Proof.Machine.Claims

variable {w : Writes} {s t : State}

theorem Keeps.refl (w : Writes) (s : State) : Keeps w s s := by
  simp [Keeps]

theorem Keeps.setReg (h : Keeps w s t) {r : Reg} (v : Byte) (hr : r ∈ w.regs) :
    Keeps w s (t.setReg r v) := by
  obtain ⟨hregs, hrest⟩ := h
  refine ⟨fun r' hr' => ?_, by simpa [State.readByte] using hrest⟩
  have hne : r' ≠ r := fun heq => hr' (heq ▸ hr)
  rw [State.reg_setReg_other t v hne, hregs r' hr']

theorem Keeps.writePort (h : Keeps w s t) (n v : Byte) (hw : w.shifter = true) :
    Keeps w s (t.writePort n v) := by
  obtain ⟨hregs, hsp, hflags, hinte, hhalted, hstatus, -, hrest⟩ := h
  obtain ⟨shift, shamt, heq⟩ := t.writePort_eq_shifter_update n v
  rw [heq]
  exact ⟨hregs, hsp, hflags, hinte, hhalted, hstatus, fun hnot => absurd (hw.symm.trans hnot) nofun, hrest⟩

theorem Keeps.retire (h : Keeps w s t) (len : Word) (cycles : Nat) : Keeps w s (t.retire len cycles) := h

end Sys2Proof.Machine.Claims
end

section
/-! SUPPORT. The ports as numbers, and IN and OUT (`20_memory.md` R60 to R66). -/

namespace Sys2Proof.Machine

open Claims

theorem toNat_pair (h l : Byte) : (pair h l).toNat = 256 * h.toNat + l.toNat := by
  rw [pair, BitVec.toNat_append, ← Nat.shiftLeft_add_eq_or_of_lt l.isLt, Nat.shiftLeft_eq]
  omega

theorem toNat_hi (v : Word) : (hi v).toNat = v.toNat / 256 := by
  rw [hi, BitVec.extractLsb'_toNat, Nat.shiftRight_eq_div_pow]
  omega

/-- The shift result, bits 7 to 0 of SHIFT shifted right by 8 - SHAMT (`20_memory.md` R66). -/
theorem State.toNat_shiftResult (s : State) :
    s.shiftResult.toNat = s.shift.toNat / 2 ^ (8 - s.shamt.toNat) % 256 := by
  rw [State.shiftResult, BitVec.toNat_setWidth, BitVec.toNat_ushiftRight, Nat.shiftRight_eq_div_pow]

@[simp] theorem State.writePort_pc (s : State) (n v : Byte) : (s.writePort n v).pc = s.pc := by
  obtain ⟨_, _, h⟩ := s.writePort_eq_shifter_update n v; rw [h]

@[simp] theorem State.writePort_cyc (s : State) (n v : Byte) : (s.writePort n v).cyc = s.cyc := by
  obtain ⟨_, _, h⟩ := s.writePort_eq_shifter_update n v; rw [h]

/-- Settles O34: A takes the byte of the port read, one case per port. -/
theorem inputFromPort : Obligations.InputFromPort := by
  intro port s
  refine ⟨rfl, (s.setReg .a (s.readPort port)).retire 2 10, rfl, ?_, ⟨rfl, rfl⟩,
    ((Keeps.refl _ s).setReg _ (by simp)).retire 2 10⟩
  have ha : (s.setReg .a (s.readPort port)).a = s.readPort port := rfl
  rw [State.retire_a, ha, State.readPort_eq]
  split_ifs
  · rfl
  · rfl
  · exact s.toNat_shiftResult
  · rfl

/-- Settles O35: the port write is the shifter's, one case per port. -/
theorem outputToPort : Obligations.OutputToPort := by
  intro port s
  refine ⟨rfl, (s.writePort port s.a).retire 2 10, rfl, ?_, by simp [GoesOn],
    ((Keeps.refl _ s).writePort port s.a rfl).retire 2 10⟩
  rw [State.retire_shift, State.retire_shamt, State.writePort_eq]
  split_ifs
  · exact ⟨BitVec.toNat_setWidth 3 s.a, rfl⟩
  · exact ⟨by rw [toNat_pair, toNat_hi], rfl⟩
  · exact ⟨rfl, rfl⟩

end Sys2Proof.Machine
end

section
/-! SUPPORT. The host's moves: an input bit, pause, a restart (`20_memory.md` R79, R57, `60_exceptions.md`
R286, `70_reset_and_hazards.md` R310). -/

namespace Sys2Proof.Machine

variable {s t : State}

/-- Bit by bit, `setBit` writes bit `i` alone. -/
theorem getLsbD_setBit (x : Byte) {i : Nat} (v : Bool) (hindex : i < 8) (k : Nat) :
    (setBit x i v).getLsbD k = if k = i then v else x.getLsbD k := by
  have hbit : (BitVec.twoPow 8 i).getLsbD k = decide (k = i) := by
    simp [BitVec.getLsbD_twoPow, hindex, eq_comm]
  cases v with
  | true =>
    rw [setBit, if_pos rfl, BitVec.getLsbD_or, hbit]
    by_cases hk : k = i <;> simp [hk]
  | false =>
    rw [setBit, if_neg nofun, BitVec.getLsbD_and, BitVec.getLsbD_not, hbit]
    by_cases hk : k = i
    · simp [hk]
    · simpa [hk] using BitVec.lt_of_getLsbD

/-- What an input-bit call does on this hardware, one case per port (`20_memory.md` R79). -/
theorem State.setInputBit_eq (s : State) (port : Byte) {i : Nat} (v : Bool) (hindex : i < 8) :
    s.setInputBit port i v =
      if port = 1 then .next { s with inp1 := setBit s.inp1 i v }
      else if port = 2 then .next { s with inp2 := setBit s.inp2 i v }
      else .refused (.badInputBit port i) :=
  if_neg (by omega)

theorem State.setInputBit_refused_of_index (s : State) (port : Byte) {i : Nat} (v : Bool) (hindex : ¬ i < 8) :
    s.setInputBit port i v = .refused (.badInputBit port i) :=
  if_pos (by omega)

/-- Settles O53: the call by its port, the new byte bit by bit. -/
theorem setInputBitIsLocal : Obligations.SetInputBitIsLocal := by
  intro port i v s
  by_cases hindex : i < 8
  · simp only [hindex, true_and, State.setInputBit_eq s port v hindex]
    split_ifs
    · exact ⟨_, rfl, rfl, getLsbD_setBit s.inp1 v hindex⟩
    · exact ⟨_, rfl, rfl, getLsbD_setBit s.inp2 v hindex⟩
    · rfl
  · simp only [hindex, false_and, if_false]
    exact State.setInputBit_refused_of_index s port v hindex

/-- An input-bit call that is not refused writes one of the two input bytes (`20_memory.md` R79). -/
theorem State.setInputBit_cases {port : Byte} {i : Nat} {v : Bool} (h : s.setInputBit port i v = .next t) :
    (∃ inp1, t = { s with inp1 }) ∨ (∃ inp2, t = { s with inp2 }) := by
  by_cases hindex : i < 8
  · rw [State.setInputBit_eq s port v hindex] at h
    split_ifs at h
    · exact .inl ⟨_, (Host.Outcome.next.inj h).symm⟩
    · exact .inr ⟨_, (Host.Outcome.next.inj h).symm⟩
  · rw [State.setInputBit_refused_of_index s port v hindex] at h
    cases h

/-- A launch that is not refused leaves the reset state with the image, which fits, loaded at 0
(`70_reset_and_hazards.md` R310). -/
theorem launch_cases {cfg : Config} {u : Unspecified} {image : List Byte} (h : launch cfg u image = .next t) :
    image.length ≤ 65536 ∧ t = { State.resetWith cfg u with mem := Memory.load u.mem 0 image } := by
  unfold launch State.loadImage at h
  split_ifs at h with hshort hfit
  exact ⟨by omega, (Host.Outcome.next.inj h).symm⟩

/-- Settles O50: the input bits and PAUSED are in none of the three invariants, and a restart is the
reset state with a loaded memory. -/
theorem hostMovesKeepTheInvariants : Obligations.HostMovesKeepTheInvariants := by
  intro act s t hcanon h
  cases act with
  | setInputBit port i v =>
    obtain ⟨inp1, rfl⟩ | ⟨inp2, rfl⟩ := State.setInputBit_cases h
    · exact ⟨id, id, id⟩
    · exact ⟨id, id, id⟩
  | pause | unpause =>
    obtain rfl := Host.Outcome.next.inj h
    exact ⟨id, id, id⟩
  | restartWith u image =>
    have hwf := hcanon u image rfl
    obtain ⟨hfit, rfl⟩ := launch_cases h
    obtain ⟨-, hcount, hfault⟩ := resetMeetsTheInvariants u hwf
    exact ⟨fun _ => Memory.wf_load image (by omega) hwf, fun _ => hcount, fun _ => hfault⟩

end Sys2Proof.Machine
end

section
/-! SUPPORT. The encoder and the opcode map held against each other: what each says of a first byte
(`30_encoding.md` R90, R93, R96 to R100). -/

namespace Sys2Proof

open Machine

variable {op : Byte} {i : Instr}

/-- `FirstByteOf op i`: `op` is the first byte of `i`, in the encoder and in the opcode map alike. There is
one case per number of operand bytes; with operands, `i` is a family `f` at an operand value `v`. -/
inductive FirstByteOf (op : Byte) : Instr → Prop where
  | alone (i : Instr) (henc : encode i = [op]) (hlen : opcodeLength op = 1)
      (hmap : ∀ b2 b3, decodeOp op b2 b3 = i) : FirstByteOf op i
  | withByte (f : Byte → Instr) (v : Byte) (henc : ∀ v, encode (f v) = [op, v])
      (hlen : opcodeLength op = 2) (hmap : ∀ b2 b3, decodeOp op b2 b3 = f b2) : FirstByteOf op (f v)
  | withWord (f : Word → Instr) (v : Word) (henc : ∀ v, encode (f v) = [op, lo v, hi v])
      (hlen : opcodeLength op = 3) (hmap : ∀ b2 b3, decodeOp op b2 b3 = f (pair b3 b2)) :
      FirstByteOf op (f v)

/-- Every instruction has a first byte on which the encoder and the map agree. -/
theorem exists_firstByteOf (i : Instr) : ∃ op, FirstByteOf op i := by
  cases i with
  | lxiB v | lxiD v | lxiH v | lxiSp v | shld v | lhld v | sta v | lda v | jmp v | call v
  | jnz v | jz v | jnc v | jc v | jpo v | jpe v | jp v | jm v
  | cnz v | cz v | cnc v | cc v | cpo v | cpe v | cp v | cm v =>
    exact ⟨_, .withWord _ v (fun _ => rfl) rfl fun _ _ => rfl⟩
  | mviB v | mviC v | mviD v | mviE v | mviH v | mviL v | mviM v | mviA v
  | adi v | aci v | sui v | sbi v | ani v | xri v | ori v | cpi v | outPort v | inPort v =>
    exact ⟨_, .withByte _ v (fun _ => rfl) rfl fun _ _ => rfl⟩
  | _ => exact ⟨_, .alone _ rfl rfl fun _ _ => rfl⟩

theorem FirstByteOf.head?_encode (h : FirstByteOf op i) : (encode i).head? = some op := by
  cases h with
  | alone _ henc => rw [henc]; rfl
  | withByte _ _ henc => rw [henc]; rfl
  | withWord _ _ henc => rw [henc]; rfl

/-- The map has no instruction at two first bytes: entry `op` encodes to `op` again. -/
theorem head?_encode_decodeOp_zero : ∀ op : Byte, (encode (decodeOp op 0 0)).head? = some op := by
  decide

/-- Every byte is the first byte of some instruction (`30_encoding.md` R96). -/
theorem exists_instr_of_firstByte (op : Byte) : ∃ i, FirstByteOf op i := by
  obtain ⟨op', h⟩ := exists_firstByteOf (decodeOp op 0 0)
  have hop : op' = op := Option.some.inj (h.head?_encode.symm.trans (head?_encode_decodeOp_zero op))
  exact ⟨_, hop ▸ h⟩

/-- The instruction read from three bytes encodes to those of them that its first byte calls for. -/
theorem encode_decodeOp (op b2 b3 : Byte) :
    encode (decodeOp op b2 b3) = [op, b2, b3].take (opcodeLength op) := by
  obtain ⟨i, h⟩ := exists_instr_of_firstByte op
  cases h with
  | alone _ henc hlen hmap => rw [hmap, henc, hlen]; rfl
  | withByte _ _ henc hlen hmap => rw [hmap, henc, hlen]; rfl
  | withWord _ _ henc hlen hmap => rw [hmap, henc, hlen, lo_pair, hi_pair]; rfl

end Sys2Proof
end

section
/-! SUPPORT. The decoder, one equation per length, its inversion, and the two round trips
(`30_encoding.md` R90, R93, R96, R102). -/

namespace Sys2Proof

open Machine

variable {op : Byte} {i : Instr}

theorem opcodeLength_cases (op : Byte) :
    opcodeLength op = 1 ∨ opcodeLength op = 2 ∨ opcodeLength op = 3 := by
  unfold opcodeLength
  split_ifs
  · exact .inr (.inr rfl)
  · exact .inr (.inl rfl)
  · exact .inl rfl

theorem decode_of_length_one (rest : List Byte) (h : opcodeLength op = 1) :
    decode (op :: rest) = .ok (decodeOp op 0 0, rest) :=
  if_pos h

theorem decode_of_length_two (b2 : Byte) (rest : List Byte) (h : opcodeLength op = 2) :
    decode (op :: b2 :: rest) = .ok (decodeOp op b2 0, rest) := by
  simp [decode, h]

theorem decode_of_length_three (b2 b3 : Byte) (rest : List Byte) (h : opcodeLength op = 3) :
    decode (op :: b2 :: b3 :: rest) = .ok (decodeOp op b2 b3, rest) := by
  simp [decode, h]

/-- Inversion of `decode`: the bytes taken are as many as the first one calls for. -/
theorem decode_cases {bytes rest : List Byte} (h : decode bytes = .ok (i, rest)) :
    ∃ op b2 b3, i = decodeOp op b2 b3 ∧ bytes = [op, b2, b3].take (opcodeLength op) ++ rest := by
  cases bytes with
  | nil => cases h
  | cons op tail =>
    obtain hlen | hlen | hlen := opcodeLength_cases op
    · rw [decode_of_length_one tail hlen] at h
      cases h
      exact ⟨op, 0, 0, rfl, by rw [hlen]; rfl⟩
    · match tail with
      | [] => simp [decode, hlen] at h
      | b2 :: tail =>
        rw [decode_of_length_two b2 tail hlen] at h
        cases h
        exact ⟨op, b2, 0, rfl, by rw [hlen]; rfl⟩
    · match tail with
      | [] | [_] => simp [decode, hlen] at h
      | b2 :: b3 :: tail =>
        rw [decode_of_length_three b2 b3 tail hlen] at h
        cases h
        exact ⟨op, b2, b3, rfl, by rw [hlen]; rfl⟩

/-- Settles O1: the map's entry at the first byte of `i` rebuilds `i` from the operand bytes, by the number
of operand bytes. -/
theorem decodeAfterEncode : Obligations.DecodeAfterEncode := by
  intro i rest
  obtain ⟨op, h⟩ := exists_firstByteOf i
  cases h with
  | alone i henc hlen hmap =>
    rw [henc, ← hmap 0 0]
    exact decode_of_length_one rest hlen
  | withByte f v henc hlen hmap =>
    rw [henc, ← hmap v 0]
    exact decode_of_length_two v rest hlen
  | withWord f v henc hlen hmap =>
    have hv : decodeOp op (lo v) (hi v) = f v := by rw [hmap, pair_hi_lo]
    rw [henc, ← hv]
    exact decode_of_length_three (lo v) (hi v) rest hlen

/-- Settles O2: the bytes a decode takes are those that the decoded instruction encodes to. -/
theorem encodeAfterDecode : Obligations.EncodeAfterDecode := by
  intro bytes rest i h
  obtain ⟨op, b2, b3, rfl, rfl⟩ := decode_cases h
  rw [encode_decodeOp]

end Sys2Proof
end

section
/-! SUPPORT. What the first byte alone decides: the length, and whether the instruction is documented
(`30_encoding.md` R90, R101). -/

namespace Sys2Proof

theorem head?_encode_decodeOp (op b2 b3 : Byte) : (encode (decodeOp op b2 b3)).head? = some op := by
  rw [encode_decodeOp]
  obtain hlen | hlen | hlen := opcodeLength_cases op <;> rw [hlen] <;> rfl

/-- The law of the encoded length, over all instructions. -/
theorem encodedLength (i : Instr) : Laws.EncodedLength.Statement i := by
  cases i with
  | _ => exact ⟨rfl, rfl⟩

theorem length_decodeOp (op b2 b3 : Byte) : (decodeOp op b2 b3).length = opcodeLength op := by
  obtain ⟨-, hlen⟩ := encodedLength (decodeOp op b2 b3)
  rw [head?_encode_decodeOp] at hlen
  exact (Option.some.inj hlen).symm

theorem head?_encode_map_documented (i : Instr) :
    (encode i).head?.map (fun op => !decide (op ∈ undocumentedOpcodes)) = some i.documented := by
  cases i with
  | _ => rfl

theorem documented_decodeOp (op b2 b3 : Byte) :
    (decodeOp op b2 b3).documented = !decide (op ∈ undocumentedOpcodes) := by
  have hdoc := head?_encode_map_documented (decodeOp op b2 b3)
  rw [head?_encode_decodeOp] at hdoc
  exact (Option.some.inj hdoc).symm

/-- Settles O4: the first byte decides whether the instruction is documented. -/
theorem twelveUndocumentedFirstBytes : Obligations.TwelveUndocumentedFirstBytes := by
  intro op b2 b3
  rw [Instr.WellFormed, documented_decodeOp, Bool.not_eq_true', decide_eq_false_iff_not, not_not]
  rfl

end Sys2Proof
end

section
/-! SUPPORT. The classes of first bytes by length, their three-bit field read as a register, condition or
operation code (`30_encoding.md` R90, R94, R99). -/

namespace Sys2Proof

variable {op : Byte}

theorem opcodeLength_eq_three_iff :
    opcodeLength op = 3 ↔
      op ∈ ([0x01, 0x11, 0x21, 0x31, 0x22, 0x2A, 0x32, 0x3A, 0xC3, 0xCD] : List Byte) ∨
      op &&& 0xC7 = 0xC2 ∨ op &&& 0xC7 = 0xC4 := by
  rw [opcodeLength]
  split_ifs with h3 h2
  · exact iff_of_true rfl h3
  · exact iff_of_false (by decide) h3
  · exact iff_of_false (by decide) h3

/-- `opcodeLength` tests for length 3 first; no byte of that class is in the class of length 2. -/
theorem opcodeLength_eq_two_iff :
    opcodeLength op = 2 ↔
      op &&& 0xC7 = 0x06 ∨ op &&& 0xC7 = 0xC6 ∨ op = 0xD3 ∨ op = 0xDB := by
  revert op
  decide

/-- A byte is its bits outside 5 to 3, and the three-bit field there. -/
theorem eq_and_mask_add_field :
    ∀ op : Byte, op = (op &&& 0xC7) + 8 * BitVec.ofNat 8 (op.toNat / 8 % 8) := by
  decide

theorem add_field_and_mask : ∀ base : Byte, base &&& 0xC7 = base →
    ∀ n : Fin 8, (base + 8 * BitVec.ofNat 8 n) &&& 0xC7 = base := by
  decide

/-- The bytes that agree with `base` outside bits 5 to 3 are `base` with any three-bit field there. -/
theorem and_mask_eq_iff {base : Byte} (hbase : base &&& 0xC7 = base) :
    op &&& 0xC7 = base ↔ ∃ n : Fin 8, op = base + 8 * BitVec.ofNat 8 n := by
  constructor
  · rintro rfl
    exact ⟨⟨op.toNat / 8 % 8, by omega⟩, eq_and_mask_add_field op⟩
  · rintro ⟨n, rfl⟩
    exact add_field_and_mask base hbase n

/-- The eight three-bit codes are the eight conditions (`30_encoding.md` R94). -/
theorem Cond.exists_code_iff (P : Byte → Prop) :
    (∃ n : Fin 8, P (BitVec.ofNat 8 n)) ↔ ∃ cond : Cond, P cond.code :=
  ⟨fun
    | ⟨0, hP⟩ => ⟨.nz, hP⟩ | ⟨1, hP⟩ => ⟨.z, hP⟩ | ⟨2, hP⟩ => ⟨.nc, hP⟩ | ⟨3, hP⟩ => ⟨.c, hP⟩
    | ⟨4, hP⟩ => ⟨.po, hP⟩ | ⟨5, hP⟩ => ⟨.pe, hP⟩ | ⟨6, hP⟩ => ⟨.p, hP⟩ | ⟨7, hP⟩ => ⟨.m, hP⟩,
  fun
    | ⟨.nz, hP⟩ => ⟨0, hP⟩ | ⟨.z, hP⟩ => ⟨1, hP⟩ | ⟨.nc, hP⟩ => ⟨2, hP⟩ | ⟨.c, hP⟩ => ⟨3, hP⟩
    | ⟨.po, hP⟩ => ⟨4, hP⟩ | ⟨.pe, hP⟩ => ⟨5, hP⟩ | ⟨.p, hP⟩ => ⟨6, hP⟩ | ⟨.m, hP⟩ => ⟨7, hP⟩⟩

/-- The eight three-bit codes are the eight operations on A (`30_encoding.md` R99). -/
theorem AluOp.exists_code_iff (P : Byte → Prop) :
    (∃ n : Fin 8, P (BitVec.ofNat 8 n)) ↔ ∃ alu : AluOp, P alu.code :=
  ⟨fun
    | ⟨0, hP⟩ => ⟨.add, hP⟩ | ⟨1, hP⟩ => ⟨.adc, hP⟩ | ⟨2, hP⟩ => ⟨.sub, hP⟩ | ⟨3, hP⟩ => ⟨.sbb, hP⟩
    | ⟨4, hP⟩ => ⟨.ana, hP⟩ | ⟨5, hP⟩ => ⟨.xra, hP⟩ | ⟨6, hP⟩ => ⟨.ora, hP⟩ | ⟨7, hP⟩ => ⟨.cmp, hP⟩,
  fun
    | ⟨.add, hP⟩ => ⟨0, hP⟩ | ⟨.adc, hP⟩ => ⟨1, hP⟩ | ⟨.sub, hP⟩ => ⟨2, hP⟩ | ⟨.sbb, hP⟩ => ⟨3, hP⟩
    | ⟨.ana, hP⟩ => ⟨4, hP⟩ | ⟨.xra, hP⟩ => ⟨5, hP⟩ | ⟨.ora, hP⟩ => ⟨6, hP⟩ | ⟨.cmp, hP⟩ => ⟨7, hP⟩⟩

/-- The eight three-bit codes are the seven registers and 6, the code of M (`10_state.md` R22). -/
theorem Reg.exists_code_or_six_iff (P : Byte → Prop) :
    (∃ n : Fin 8, P (BitVec.ofNat 8 n)) ↔ (∃ reg : Reg, P reg.code) ∨ P 6 :=
  ⟨fun
    | ⟨0, hP⟩ => .inl ⟨.b, hP⟩ | ⟨1, hP⟩ => .inl ⟨.c, hP⟩ | ⟨2, hP⟩ => .inl ⟨.d, hP⟩
    | ⟨3, hP⟩ => .inl ⟨.e, hP⟩ | ⟨4, hP⟩ => .inl ⟨.h, hP⟩ | ⟨5, hP⟩ => .inl ⟨.l, hP⟩
    | ⟨6, hP⟩ => .inr hP | ⟨7, hP⟩ => .inl ⟨.a, hP⟩,
  fun
    | .inl ⟨.b, hP⟩ => ⟨0, hP⟩ | .inl ⟨.c, hP⟩ => ⟨1, hP⟩ | .inl ⟨.d, hP⟩ => ⟨2, hP⟩
    | .inl ⟨.e, hP⟩ => ⟨3, hP⟩ | .inl ⟨.h, hP⟩ => ⟨4, hP⟩ | .inl ⟨.l, hP⟩ => ⟨5, hP⟩
    | .inr hP => ⟨6, hP⟩ | .inl ⟨.a, hP⟩ => ⟨7, hP⟩⟩

/-- Settles O3: the first byte decides the length, and each masked class is listed by its field's codes. -/
theorem lengthByFirstByte : Obligations.LengthByFirstByte := by
  intro op b2 b3
  have hjump : op &&& 0xC7 = 0xC2 ↔ ∃ cc : Cond, op = 0xC2 + 8 * cc.code :=
    (and_mask_eq_iff rfl).trans (Cond.exists_code_iff fun code => op = 0xC2 + 8 * code)
  have hcall : op &&& 0xC7 = 0xC4 ↔ ∃ cc : Cond, op = 0xC4 + 8 * cc.code :=
    (and_mask_eq_iff rfl).trans (Cond.exists_code_iff fun code => op = 0xC4 + 8 * code)
  have hmvi : op &&& 0xC7 = 0x06 ↔ (∃ r : Reg, op = 0x06 + 8 * r.code) ∨ op = 0x36 :=
    (and_mask_eq_iff rfl).trans (Reg.exists_code_or_six_iff fun code => op = 0x06 + 8 * code)
  have halu : op &&& 0xC7 = 0xC6 ↔ ∃ o : AluOp, op = 0xC6 + 8 * o.code :=
    (and_mask_eq_iff rfl).trans (AluOp.exists_code_iff fun code => op = 0xC6 + 8 * code)
  rw [length_decodeOp]
  refine ⟨?_, ?_, ?_⟩
  · rw [opcodeLength_eq_three_iff, hjump, hcall]
  · rw [opcodeLength_eq_two_iff, hmvi, halu, or_assoc]
  · have hlen := opcodeLength_cases op
    omega

end Sys2Proof
end

section
/-! SUPPORT. The scheduler's step, one equation per case (`60_exceptions.md` R271, R283, R284), and the
instruction it fetches (`30_encoding.md` R105). -/

namespace Sys2Proof.Machine

open Claims

variable {s : State} {i : Instr} {rest : List Byte}

theorem step_of_faulted {opcode : Byte} {pc : Word} (h : s.status = .faulted opcode pc) :
    step s = .fault (.faulted opcode pc) := by
  rw [step, schedulerStep, h]

theorem step_of_betweenFrames (hrun : s.status = .running) (hphase : s.phase = .betweenFrames)
    (hpaused : s.paused = false) : step s = firstHalfTurn Config.hardware s.startFrame := by
  rw [step, schedulerStep, hrun, hphase]
  exact if_neg (by simp [State.frozen, hpaused])

theorem step_of_firstHalf (hrun : s.status = .running) (hphase : s.phase = .firstHalf) :
    step s = firstHalfTurn Config.hardware s := by
  rw [step, schedulerStep, hrun, hphase]

theorem step_of_secondHalf (hrun : s.status = .running) (hphase : s.phase = .secondHalf) :
    step s = secondHalfTurn Config.hardware s := by
  rw [step, schedulerStep, hrun, hphase]

theorem firstHalfTurn_of_lt (hcyc : s.cyc < 16666) :
    firstHalfTurn Config.hardware s = executeOne s :=
  if_pos hcyc

theorem secondHalfTurn_of_lt (hcyc : s.cyc < 33333) :
    secondHalfTurn Config.hardware s = executeOne s :=
  if_pos hcyc

theorem executeOne_of_running (hrun : s.status = .running) (hhalted : s.halted = false) :
    executeOne s = exec s.fetch s := by
  rw [executeOne, hrun, hhalted]
  rfl

/-- A fetch is the decoding of the three bytes from PC up, of which it takes as many as it needs. -/
theorem decode_bytesAtPc (s : State) : ∃ rest, decode (bytesAtPc s) = .ok (s.fetch, rest) := by
  rw [bytesAtPc]
  obtain hlen | hlen | hlen := opcodeLength_cases (s.readByte s.pc)
  · exact ⟨_, by simpa [State.fetch, hlen] using decode_of_length_one _ hlen⟩
  · exact ⟨_, by simpa [State.fetch, hlen] using decode_of_length_two _ _ hlen⟩
  · exact ⟨_, by simpa [State.fetch, hlen] using decode_of_length_three _ _ _ hlen⟩

theorem State.fetch_eq_of_decode (h : decode (bytesAtPc s) = .ok (i, rest)) : s.fetch = i := by
  obtain ⟨_, hfetch⟩ := decode_bytesAtPc s
  cases hfetch.symm.trans h
  rfl

theorem executeOne_of_decode (hrun : s.status = .running) (hhalted : s.halted = false)
    (hdecode : decode (bytesAtPc s) = .ok (i, rest)) : executeOne s = exec i s := by
  rw [executeOne_of_running hrun hhalted, State.fetch_eq_of_decode hdecode]

/-- Settles O42: below its threshold each turn is an `execute_one` call, and a frame starts below it. -/
theorem stepRunsTheDecodedInstruction : Obligations.StepRunsTheDecodedInstruction := by
  intro s i rest hrun hhalted hdecode
  refine ⟨fun hphase hpaused => ?_, fun hphase hcyc => ?_, fun hphase hcyc => ?_⟩
  · have hcyc : s.startFrame.cyc < 16666 := by rw [State.startFrame_cyc]; decide
    rw [step_of_betweenFrames hrun hphase hpaused, firstHalfTurn_of_lt hcyc]
    exact executeOne_of_decode (s := s.startFrame) hrun hhalted hdecode
  · rw [step_of_firstHalf hrun hphase, firstHalfTurn_of_lt hcyc]
    exact executeOne_of_decode hrun hhalted hdecode
  · rw [step_of_secondHalf hrun hphase, secondHalfTurn_of_lt hcyc]
    exact executeOne_of_decode hrun hhalted hdecode

end Sys2Proof.Machine
end

section
/-! SUPPORT. The fault of the undocumented first bytes (`30_encoding.md` R101, `60_exceptions.md` R270). -/

namespace Sys2Proof.Machine

open Claims

theorem Claims.Keeps.raiseUnsupported {w : Writes} {s t : State} (h : Keeps w s t) (opcode : Byte)
    (hw : w.status = true) : Keeps w s (t.raiseUnsupported opcode) := by
  obtain ⟨hregs, hsp, hflags, hinte, hhalted, -, hrest⟩ := h
  exact ⟨hregs, hsp, hflags, hinte, hhalted, fun hnot => absurd (hw.symm.trans hnot) nofun, hrest⟩

/-- Each of the 12 rows is its first byte alone, and raises the exception with it. -/
theorem exec_of_mem_undocumentedRows (s : State) : ∀ row ∈ undocumentedRows,
    encode row.2 = [row.1] ∧ exec row.2 s = .next (s.raiseUnsupported row.1) := by
  rw [undocumentedRows]
  simp only [List.forall_mem_cons]
  exact ⟨⟨rfl, rfl⟩, ⟨rfl, rfl⟩, ⟨rfl, rfl⟩, ⟨rfl, rfl⟩, ⟨rfl, rfl⟩, ⟨rfl, rfl⟩, ⟨rfl, rfl⟩,
    ⟨rfl, rfl⟩, ⟨rfl, rfl⟩, ⟨rfl, rfl⟩, ⟨rfl, rfl⟩, ⟨rfl, rfl⟩, nofun⟩

/-- Settles O38: the exception writes STATUS alone, and a faulted machine has no step. -/
theorem undocumentedByteFaults : Obligations.UndocumentedByteFaults := by
  intro row hrow s
  obtain ⟨henc, hexec⟩ := exec_of_mem_undocumentedRows s row hrow
  exact ⟨henc, s.raiseUnsupported row.1, hexec, rfl, rfl, rfl,
    (Keeps.refl _ s).raiseUnsupported row.1 rfl, step_of_faulted rfl⟩

end Sys2Proof.Machine
end

section
/-! SUPPORT. A 16-bit store read back (`20_memory.md` R68). -/

namespace Sys2Proof.Machine

variable {s : State}

/-- The high byte of a 16-bit store is at the next address, which is 0 after 0xFFFF. -/
theorem State.writeWord_high (addr v : Word) (h : Memory.wf s.mem = true) :
    (s.writeWord addr v).readByte (addr + 1) = hi v :=
  State.readByte_writeByte_same (addr + 1) (hi v) (State.wf_writeByte addr (lo v) h)

/-- The store of the high byte leaves the low byte where it was put. -/
theorem State.writeWord_low (addr v : Word) (h : Memory.wf s.mem = true) :
    (s.writeWord addr v).readByte addr = lo v := by
  have hne : addr ≠ addr + 1 := by bv_omega
  rw [State.writeWord, State.readByte_writeByte_other (hi v) hne (State.wf_writeByte addr (lo v) h),
    State.readByte_writeByte_same addr (lo v) h]

end Sys2Proof.Machine
end

section
/-! SUPPORT. The frame of a store and of a register-pair write, and what an instruction does whose whole
effect is one register write or one store. -/

namespace Sys2Proof.Machine.Claims

variable {w : Writes} {s t : State}

/-- A store keeps every byte outside the listed addresses where memory is canonical before it. -/
theorem Keeps.writeByte (h : Keeps w s t) (hcanon : MemoryCanonical s → MemoryCanonical t) {addr : Word}
    (v : Byte) (haddr : addr ∈ w.stored) : Keeps w s (t.writeByte addr v) := by
  obtain ⟨hregs, hsp, hflags, hinte, hhalted, hstatus, hshifter, hinp1, hinp2, hpaused, hphase, -, hread⟩ := h
  refine ⟨hregs, hsp, hflags, hinte, hhalted, hstatus, hshifter, hinp1, hinp2, hpaused, hphase,
    fun hnil => ?_, fun hs addr' hnot => ?_⟩
  · rw [hnil] at haddr
    cases haddr
  · have hne : addr' ≠ addr := fun heq => hnot (heq ▸ haddr)
    rw [State.readByte_writeByte_other v hne (hcanon hs), hread hs addr' hnot]

theorem Keeps.setSp (h : Keeps w s t) (v : Word) (hw : w.sp = true) : Keeps w s (t.setRp .sp v) := by
  obtain ⟨hregs, -, hrest⟩ := h
  exact ⟨hregs, fun hnot => absurd (hw.symm.trans hnot) nofun, hrest⟩

/-- A pair write is the write of its two registers, or of SP (`10_state.md` R21). -/
theorem Keeps.setRp (h : Keeps w s t) (p : Pair) (v : Word) (hregs : pairRegs p ⊆ w.regs)
    (hsp : p = .sp → w.sp = true) : Keeps w s (t.setRp p v) := by
  cases p with
  | bc | de | hl =>
    obtain ⟨hhigh, hlow⟩ := List.cons_subset.mp hregs
    exact (h.setReg (hi v) hhigh).setReg (lo v) (hlow List.mem_cons_self)
  | sp => exact h.setSp v (hsp rfl)

theorem Keeps.writeWord (h : Keeps w s t) (hcanon : MemoryCanonical s → MemoryCanonical t) {addr : Word}
    (v : Word) (hlow : addr ∈ w.stored) (hhigh : addr + 1 ∈ w.stored) : Keeps w s (t.writeWord addr v) :=
  (h.writeByte hcanon (lo v) hlow).writeByte (fun hs => State.wf_writeByte addr (lo v) (hcanon hs)) (hi v) hhigh

theorem goesOn_retire (len : Word) (cycles : Nat) (hpc : t.pc = s.pc) (hcyc : t.cyc = s.cyc) :
    GoesOn len cycles s (t.retire len cycles) := by
  rw [GoesOn, State.retire_pc, State.retire_cyc, hpc, hcyc]
  exact ⟨rfl, rfl⟩

variable {i : Instr} {len : Word} {cycles : Nat}

/-- An instruction that writes `v` to the register `r` and goes on. -/
theorem exists_next_of_exec_setReg {r : Reg} {v : Byte}
    (hexec : exec i s = .next ((s.setReg r v).retire len cycles)) :
    ∃ t, exec i s = .next t ∧ t.reg r = v ∧ GoesOn len cycles s t ∧ Keeps { regs := [r] } s t :=
  ⟨_, hexec, s.reg_setReg_same r v, goesOn_retire len cycles (s.setReg_pc r v) (s.setReg_cyc r v),
    ((Keeps.refl _ s).setReg v List.mem_cons_self).retire len cycles⟩

/-- An instruction that stores `v` at `addr` and goes on. -/
theorem exists_next_of_exec_writeByte {addr : Word} {v : Byte}
    (hexec : exec i s = .next ((s.writeByte addr v).retire len cycles)) :
    ∃ t, exec i s = .next t ∧ (MemoryCanonical s → t.readByte addr = v) ∧ GoesOn len cycles s t ∧
      Keeps { stored := [addr] } s t :=
  ⟨_, hexec, State.readByte_writeByte_same (s := s) addr v, goesOn_retire len cycles rfl rfl,
    ((Keeps.refl _ s).writeByte id v List.mem_cons_self).retire len cycles⟩

end Sys2Proof.Machine.Claims
end

section
/-! SUPPORT. The data transfer instructions by operand: the encoding and the meaning of each family
(`40_data_transfer.md` R120 to R131), where the dispatch has an arm per operand. -/

namespace Sys2Proof.Machine

/-! ### Encodings -/

theorem encode_mov (r1 r2 : Reg) : encode (.mov r1 r2) = [0x40 + 8 * r1.code + r2.code] := by
  cases r1 <;> cases r2 <;> rfl

theorem encode_movFromM (r : Reg) : encode (.movFromM r) = [0x46 + 8 * r.code] := by
  cases r <;> rfl

theorem encode_movToM (r : Reg) : encode (.movToM r) = [0x70 + r.code] := by
  cases r <;> rfl

theorem encode_mvi (r : Reg) (d8 : Byte) : encode (.mvi r d8) = [0x06 + 8 * r.code, d8] := by
  cases r <;> rfl

theorem encode_lxi (p : Pair) (d16 : Word) : encode (.lxi p d16) = [0x01 + 16 * p.code, lo d16, hi d16] := by
  cases p <;> rfl

theorem encode_ldax (p : IndexPair) : encode (.ldax p) = [0x0A + 16 * p.code] := by
  cases p <;> rfl

theorem encode_stax (p : IndexPair) : encode (.stax p) = [0x02 + 16 * p.code] := by
  cases p <;> rfl

/-- The encoding of an instruction with a 16-bit operand holds the low byte first. -/
theorem encode_eq_of_pair {f : Word → Instr} {op : Byte} (henc : ∀ v, encode (f v) = [op, lo v, hi v])
    (b2 b3 : Byte) : encode (f (pair b3 b2)) = [op, b2, b3] := by
  rw [henc, lo_pair, hi_pair]

/-! ### Meanings -/

variable (s : State)

theorem exec_mov (r1 r2 : Reg) : exec (.mov r1 r2) s = moveReg r1 r2 s := by
  cases r1 <;> cases r2 <;> rfl

theorem exec_movFromM (r : Reg) : exec (.movFromM r) s = loadRegM r s := by
  cases r <;> rfl

theorem exec_movToM (r : Reg) : exec (.movToM r) s = storeRegM r s := by
  cases r <;> rfl

theorem exec_mvi (r : Reg) (d8 : Byte) : exec (.mvi r d8) s = moveImm r d8 s := by
  cases r <;> rfl

theorem exec_lxi (p : Pair) (d16 : Word) : exec (.lxi p d16) s = loadPairImm p d16 s := by
  cases p <;> rfl

theorem exec_ldax (p : IndexPair) : exec (.ldax p) s = loadIndexed p s := by
  cases p <;> rfl

theorem exec_stax (p : IndexPair) : exec (.stax p) s = storeIndexed p s := by
  cases p <;> rfl

end Sys2Proof.Machine
end

section
/-! SUPPORT. The statements about data transfer (`40_data_transfer.md` R120 to R132), settled. -/

namespace Sys2Proof.Machine

open Claims

/-- Settles O6: one register write, of what `r2` held. -/
theorem movRegisterToRegister : Obligations.MovRegisterToRegister :=
  fun r1 r2 s => ⟨encode_mov r1 r2, exists_next_of_exec_setReg (exec_mov s r1 r2)⟩

/-- Settles O7: a register write and a store, both addressed by HL before them. -/
theorem movFromAndToMemory : Obligations.MovFromAndToMemory :=
  fun r s => ⟨⟨encode_movFromM r, exists_next_of_exec_setReg (exec_movFromM s r)⟩,
    encode_movToM r, exists_next_of_exec_writeByte (exec_movToM s r)⟩

/-- Settles O8: a register write and a store of the operand byte. -/
theorem moveImmediate : Obligations.MoveImmediate :=
  fun r d8 s => ⟨⟨encode_mvi r d8, exists_next_of_exec_setReg (exec_mvi s r d8)⟩,
    rfl, exists_next_of_exec_writeByte (i := .mviM d8) rfl⟩

/-- Settles O9: a pair write; the operand's two bytes are the pair's two registers, or SP. -/
theorem loadPairImmediate : Obligations.LoadPairImmediate := by
  intro p b2 b3 s
  refine ⟨encode_eq_of_pair (encode_lxi p) b2 b3, _, exec_lxi s p (pair b3 b2), ?_,
    goesOn_retire 3 10 (s.setRp_pc p _) (s.setRp_cyc p _),
    ((Keeps.refl _ s).setRp p _ (List.Subset.refl _) decide_eq_true).retire 3 10⟩
  cases p with
  | bc | de | hl => exact ⟨hi_pair b3 b2, lo_pair b3 b2⟩
  | sp => rfl

/-- Settles O10: a write of A and a store of A, at the operand. -/
theorem loadAndStoreADirect : Obligations.LoadAndStoreADirect :=
  fun b2 b3 _ => ⟨⟨encode_eq_of_pair (fun _ => rfl) b2 b3, exists_next_of_exec_setReg (r := .a) rfl⟩,
    encode_eq_of_pair (fun _ => rfl) b2 b3, exists_next_of_exec_writeByte (i := .sta _) rfl⟩

/-- Settles O11: a write of the pair HL, and a 16-bit store of it. -/
theorem loadAndStoreHlDirect : Obligations.LoadAndStoreHlDirect := by
  intro b2 b3 s
  constructor
  · exact ⟨encode_eq_of_pair (fun _ => rfl) b2 b3, _, rfl, lo_pair _ _, hi_pair _ _, ⟨rfl, rfl⟩,
      ((Keeps.refl _ s).setRp .hl _ (List.Subset.refl _) nofun).retire 3 16⟩
  · refine ⟨encode_eq_of_pair (fun _ => rfl) b2 b3, _, rfl, fun hs => ?_, ⟨rfl, rfl⟩,
      ((Keeps.refl _ s).writeWord id s.hl (by simp) (by simp)).retire 3 16⟩
    exact ⟨(State.writeWord_low _ s.hl hs).trans (lo_pair s.h s.l),
      (State.writeWord_high _ s.hl hs).trans (hi_pair s.h s.l)⟩

/-- Settles O12: a write of A and a store of A, at the index pair. -/
theorem loadAndStoreAIndexed : Obligations.LoadAndStoreAIndexed :=
  fun p s => ⟨⟨encode_ldax p, exists_next_of_exec_setReg (exec_ldax s p)⟩,
    encode_stax p, exists_next_of_exec_writeByte (exec_stax s p)⟩

/-- Settles O13: HL takes the old DE, then DE the old HL. -/
theorem exchangeHlWithDe : Obligations.ExchangeHlWithDe := by
  intro s
  refine ⟨rfl, _, rfl, hi_pair s.d s.e, lo_pair s.d s.e, hi_pair s.h s.l, lo_pair s.h s.l, ⟨rfl, rfl⟩, ?_⟩
  have hhl : Keeps { regs := [.d, .e, .h, .l] } s (s.setRp .hl (s.rp .de)) :=
    (Keeps.refl _ s).setRp .hl _ (by simp [pairRegs]) nofun
  exact (hhl.setRp .de s.hl (by simp [pairRegs]) nofun).retire 1 4

/-- Settles O5: a word decodes by the equation of its length. -/
theorem wordsOfTheSpecDecode : Obligations.WordsOfTheSpecDecode :=
  ⟨decode_of_length_one [] rfl, decode_of_length_three _ _ [] rfl, decode_of_length_one [] rfl,
    decode_of_length_one [] rfl, decode_of_length_three _ _ [] rfl, decode_of_length_one [] rfl,
    decode_of_length_one [] rfl, decode_of_length_two _ [] rfl, decode_of_length_one [] rfl⟩

end Sys2Proof.Machine
end

section
/-! SUPPORT. The flag computations against what the statements say of the flags: Z, S and P of a result, the
sum and the carries of ADD8, SUB8 and DAD (`41_arithmetic.md` R140, R141, R160). -/

namespace Sys2Proof.Machine

open Claims

/-- `parity` counts the 1 bits; an even count is a false exclusive or (`00_scope.md` R9). -/
theorem parity_eq_not_xor : ∀ r : Byte, parity r =
    !(r.getLsbD 0 ^^ r.getLsbD 1 ^^ r.getLsbD 2 ^^ r.getLsbD 3 ^^
      r.getLsbD 4 ^^ r.getLsbD 5 ^^ r.getLsbD 6 ^^ r.getLsbD 7) := by
  decide

/-- `SetZSP(r)` writes the Z, S and P of `r`, whatever the two carries. -/
theorem zspOf_flagsOf (r : Byte) (cy ac : Bool) : ZspOf r (flagsOf r cy ac) :=
  ⟨rfl, r.msb_eq_getLsbD_last, parity_eq_not_xor r⟩

theorem add8_fst (a v : Byte) (cin : Bool) : (add8 a v cin).1 = a + v + BitVec.ofNat 8 cin.toNat := by
  simp [add8, BitVec.ofNat_add]

/-- Adding the complement with the inverted borrow subtracts. -/
theorem sub8_fst (a v : Byte) (bin : Bool) : (sub8 a v bin).1 = a - v - BitVec.ofNat 8 bin.toNat := by
  have hbin := bin.toNat_le
  apply BitVec.eq_of_toNat_eq
  simp only [sub8, BitVec.toNat_ofNat, BitVec.toNat_sub]
  omega

/-- The flags of SUB8: no carry out of the complement's addition is a borrow. -/
theorem subtractFlags_sub8 (a v : Byte) (bin : Bool) : SubtractFlags a v bin (sub8 a v bin).2 := by
  have hbin := bin.toNat_le
  refine ⟨sub8_fst a v bin ▸ zspOf_flagsOf _ _ _, ?_, ?_⟩
  · rw [sub8, flagsOf, ← decide_not, decide_eq_decide]
    omega
  · rw [sub8, flagsOf, decide_eq_decide, lowNibble, lowNibble]
    omega

theorem dad16_fst (hl v : Word) : (dad16 hl v).1 = hl + v := by
  simp [dad16, BitVec.ofNat_add]

end Sys2Proof.Machine
end

section
/-! SUPPORT. The correction of DAA (`41_arithmetic.md` R161): when each half applies, and what it is. -/

namespace Sys2Proof.Machine

variable (a : Byte) (f : Flags)

theorem daaLow_iff : daaLow a f = true ↔ f.ac = true ∨ 9 < a.toNat % 16 := by
  simp [daaLow, lowNibble]

theorem daaHigh_iff : daaHigh a f = true ↔
    f.cy = true ∨ 9 < a.toNat / 16 ∨ (9 ≤ a.toNat / 16 ∧ 9 < a.toNat % 16) := by
  simp [daaHigh, lowNibble, highNibble, or_assoc]

theorem daa8_fst : (daa8 a f).1 = a + daaCorrection a f := by
  simp [daa8, BitVec.ofNat_add]

/-- DAA adds the low correction and the high one, which share no bit. -/
theorem daa8_fst_of_corrections {low high : Bool} (hlow : daaLow a f = low) (hhigh : daaHigh a f = high) :
    (daa8 a f).1 = a + ((if low then 0x06 else 0x00) ||| (if high then 0x60 else 0x00)) := by
  rw [daa8_fst, daaCorrection, hlow, hhigh]

/-- The low nibble of the correction is the low correction: the high one adds nothing below bit 4. -/
theorem lowNibble_daaCorrection : lowNibble (daaCorrection a f) = if daaLow a f then 6 else 0 := by
  rw [daaCorrection]
  cases daaLow a f <;> cases daaHigh a f <;> rfl

theorem daa8_ac_iff : (daa8 a f).2.ac = true ↔ daaLow a f = true ∧ 15 < a.toNat % 16 + 6 := by
  rw [daa8, flagsOf, decide_eq_true_iff, lowNibble_daaCorrection, lowNibble]
  cases daaLow a f with
  | true => simp
  | false => simp; omega

/-- The high correction applies whenever CY is set, so CY after DAA is the high correction. -/
theorem daa8_cy : (daa8 a f).2.cy = daaHigh a f := by
  rw [daa8, flagsOf, daaHigh, Bool.or_assoc, ← Bool.or_assoc, Bool.or_self]

end Sys2Proof.Machine
end

section
/-! SUPPORT. The frame of a flag write, and what an instruction does that writes a result and its flags. -/

namespace Sys2Proof.Machine.Claims

variable {w : Writes} {s t : State}

/-- A flag write keeps the frame when it agrees with the old flags on those not listed. -/
theorem Keeps.setFlags (h : Keeps w s t) (f : Flags) (hf : ∀ n, n ∉ w.flags → flag f n = flag t.flags n) :
    Keeps w s (t.setFlags f) := by
  obtain ⟨hregs, hsp, hflags, hrest⟩ := h
  exact ⟨hregs, hsp, fun n hn => (hf n hn).trans (hflags n hn), hrest⟩

theorem Keeps.setCy (h : Keeps w s t) (cy : Bool) (hcy : .cy ∈ w.flags) : Keeps w s (t.setCy cy) := by
  refine h.setFlags _ fun n hn => ?_
  cases n with
  | cy => exact absurd hcy hn
  | s | z | ac | p => rfl

theorem mem_allFlags (n : FlagName) : n ∈ allFlags := by
  cases n <;> decide

/-- CY is the one flag that INR and DCR do not list. -/
theorem eq_cy_of_not_mem {n : FlagName} (h : n ∉ [FlagName.s, .z, .ac, .p]) : n = .cy := by
  cases n with
  | cy => rfl
  | s | z | ac | p => exact absurd (by decide) h

variable {i : Instr} {len : Word} {cycles : Nat}

/-- The frame of an instruction that writes A and all five flags and goes on. -/
theorem keeps_setA_setFlags (s : State) (v : Byte) (f : Flags) (len : Word) (cycles : Nat) :
    Keeps { regs := [.a], flags := allFlags } s (((s.setReg .a v).setFlags f).retire len cycles) :=
  (((Keeps.refl _ s).setReg v List.mem_cons_self).setFlags f
    fun n hn => absurd (mem_allFlags n) hn).retire len cycles

/-- An instruction that writes the sum and the flags of ADD8. -/
theorem addsToA_of_exec {v : Byte} {cin : Bool} (hexec : exec i s =
      .next (((s.setReg .a (add8 s.a v cin).1).setFlags (add8 s.a v cin).2).retire len cycles)) :
    AddsToA i v cin len cycles s :=
  ⟨_, hexec, add8_fst s.a v cin, zspOf_flagsOf _ _ _, rfl, rfl, ⟨rfl, rfl⟩,
    keeps_setA_setFlags s _ _ len cycles⟩

/-- An instruction that writes the difference and the flags of SUB8. -/
theorem subtractsFromA_of_exec {v : Byte} {bin : Bool} (hexec : exec i s =
      .next (((s.setReg .a (sub8 s.a v bin).1).setFlags (sub8 s.a v bin).2).retire len cycles)) :
    SubtractsFromA i v bin len cycles s :=
  ⟨_, hexec, sub8_fst s.a v bin, subtractFlags_sub8 s.a v bin, ⟨rfl, rfl⟩,
    keeps_setA_setFlags s _ _ len cycles⟩

/-- Writing Z, S, P and AC of a result keeps CY, and so the frame of INR and DCR. -/
theorem Keeps.setFlags_keeping_cy (h : Keeps w s t) (v : Byte) (ac : Bool)
    (hw : w.flags = [.s, .z, .ac, .p]) : Keeps w s (t.setFlags (flagsOf v t.flags.cy ac)) := by
  refine h.setFlags _ fun n hn => ?_
  obtain rfl := eq_cy_of_not_mem (hw ▸ hn)
  rfl

/-- An instruction that writes `v` to the register `r` and its flags, CY kept. -/
theorem exists_next_of_exec_setReg_setFlags {r : Reg} {v : Byte} {ac : Bool} (hexec : exec i s =
      .next (((s.setReg r v).setFlags (flagsOf v s.flags.cy ac)).retire len cycles)) :
    ∃ t, exec i s = .next t ∧ t.reg r = v ∧ ZspOf v t.flags ∧ t.flags.ac = ac ∧ GoesOn len cycles s t ∧
      Keeps { regs := [r], flags := [.s, .z, .ac, .p] } s t := by
  have hframe := ((Keeps.refl { regs := [r], flags := [.s, .z, .ac, .p] } s).setReg v
    List.mem_cons_self).setFlags_keeping_cy v ac rfl
  rw [State.setReg_flags] at hframe
  exact ⟨_, hexec, s.reg_setReg_same r v, zspOf_flagsOf v _ _, rfl,
    goesOn_retire len cycles (s.setReg_pc r v) (s.setReg_cyc r v), hframe.retire len cycles⟩

/-- An instruction that stores `v` at `addr` and writes its flags, CY kept. -/
theorem exists_next_of_exec_writeByte_setFlags {addr : Word} {v : Byte} {ac : Bool} (hexec : exec i s =
      .next (((s.writeByte addr v).setFlags (flagsOf v s.flags.cy ac)).retire len cycles)) :
    ∃ t, exec i s = .next t ∧ (MemoryCanonical s → t.readByte addr = v) ∧ ZspOf v t.flags ∧
      t.flags.ac = ac ∧ GoesOn len cycles s t ∧
      Keeps { flags := [.s, .z, .ac, .p], stored := [addr] } s t :=
  ⟨_, hexec, State.readByte_writeByte_same (s := s) addr v, zspOf_flagsOf v _ _, rfl, ⟨rfl, rfl⟩,
    (((Keeps.refl _ s).writeByte id v List.mem_cons_self).setFlags_keeping_cy v ac rfl).retire len cycles⟩

/-- An instruction that writes the pair `p` and goes on. -/
theorem exists_next_of_exec_setRp {p : Pair} {v : Word}
    (hexec : exec i s = .next ((s.setRp p v).retire len cycles)) :
    ∃ t, exec i s = .next t ∧ t.rp p = v ∧ GoesOn len cycles s t ∧ Keeps (pairWrites p) s t :=
  ⟨_, hexec, s.rp_setRp_same p v, goesOn_retire len cycles (s.setRp_pc p v) (s.setRp_cyc p v),
    ((Keeps.refl _ s).setRp p v (List.Subset.refl _) decide_eq_true).retire len cycles⟩

end Sys2Proof.Machine.Claims
end

section
/-! SUPPORT. The arithmetic instructions by operand: the encoding and the meaning of each family
(`30_encoding.md` R99, `41_arithmetic.md` R142 to R160), where the dispatch has an arm per operand. -/

namespace Sys2Proof.Machine

/-! ### Encodings -/

theorem encode_aluReg (op : AluOp) (r : Reg) : encode (.aluReg op r) = [0x80 + 8 * op.code + r.code] := by
  cases op <;> cases r <;> rfl

theorem encode_inr (r : Reg) : encode (.inr r) = [0x04 + 8 * r.code] := by
  cases r <;> rfl

theorem encode_dcr (r : Reg) : encode (.dcr r) = [0x05 + 8 * r.code] := by
  cases r <;> rfl

theorem encode_inx (p : Pair) : encode (.inx p) = [0x03 + 16 * p.code] := by
  cases p <;> rfl

theorem encode_dcx (p : Pair) : encode (.dcx p) = [0x0B + 16 * p.code] := by
  cases p <;> rfl

theorem encode_dad (p : Pair) : encode (.dad p) = [0x09 + 16 * p.code] := by
  cases p <;> rfl

/-! ### Meanings -/

variable (s : State)

theorem exec_aluReg (op : AluOp) (r : Reg) : exec (.aluReg op r) s = aluReg op r s := by
  cases op <;> cases r <;> rfl

theorem exec_inr (r : Reg) : exec (.inr r) s = incReg r s := by
  cases r <;> rfl

theorem exec_dcr (r : Reg) : exec (.dcr r) s = decReg r s := by
  cases r <;> rfl

theorem exec_inx (p : Pair) : exec (.inx p) s = incPair p s := by
  cases p <;> rfl

theorem exec_dcx (p : Pair) : exec (.dcx p) s = decPair p s := by
  cases p <;> rfl

theorem exec_dad (p : Pair) : exec (.dad p) s = addPairToHl p s := by
  cases p <;> rfl

end Sys2Proof.Machine
end

section
/-! SUPPORT. The statements about arithmetic (`41_arithmetic.md` R140 to R161), settled. They
stand in the namespace of the claims, since two of them bear the name of the meaning they are about. -/

namespace Sys2Proof.Machine.Claims

/-- Settles O14: each form is ADD8 of its operand. -/
theorem addToAccumulator : Obligations.AddToAccumulator :=
  fun r _ s => ⟨⟨encode_aluReg .add r, addsToA_of_exec (exec_aluReg s .add r)⟩,
    ⟨rfl, addsToA_of_exec (i := .addM) rfl⟩,
    ⟨rfl, addsToA_of_exec (i := .adi _) rfl⟩,
    ⟨encode_aluReg .adc r, addsToA_of_exec (exec_aluReg s .adc r)⟩,
    ⟨rfl, addsToA_of_exec (i := .adcM) rfl⟩,
    ⟨rfl, addsToA_of_exec (i := .aci _) rfl⟩⟩

/-- Settles O15: each form is SUB8 of its operand. -/
theorem subtractFromAccumulator : Obligations.SubtractFromAccumulator :=
  fun r _ s => ⟨⟨encode_aluReg .sub r, subtractsFromA_of_exec (exec_aluReg s .sub r)⟩,
    ⟨rfl, subtractsFromA_of_exec (i := .subM) rfl⟩,
    ⟨rfl, subtractsFromA_of_exec (i := .sui _) rfl⟩,
    ⟨encode_aluReg .sbb r, subtractsFromA_of_exec (exec_aluReg s .sbb r)⟩,
    ⟨rfl, subtractsFromA_of_exec (i := .sbbM) rfl⟩,
    ⟨rfl, subtractsFromA_of_exec (i := .sbi _) rfl⟩⟩

/-- Settles O16: a register write with the flags of the result, CY kept. -/
theorem incrementAndDecrementRegister : Obligations.IncrementAndDecrementRegister :=
  fun r s => ⟨⟨encode_inr r, exists_next_of_exec_setReg_setFlags (exec_inr s r)⟩,
    encode_dcr r, exists_next_of_exec_setReg_setFlags (exec_dcr s r)⟩

/-- Settles O17: a store at HL with the flags of the result, CY kept. -/
theorem incrementAndDecrementMemory : Obligations.IncrementAndDecrementMemory :=
  fun _ => ⟨⟨rfl, exists_next_of_exec_writeByte_setFlags (i := .inrM) rfl⟩,
    rfl, exists_next_of_exec_writeByte_setFlags (i := .dcrM) rfl⟩

/-- Settles O18: a pair write; adding 65,535 subtracts 1 modulo 65,536. -/
theorem incrementAndDecrementPair : Obligations.IncrementAndDecrementPair := by
  intro p s
  constructor
  · obtain ⟨t, hexec, hrp, hrest⟩ := exists_next_of_exec_setRp (exec_inx s p)
    exact ⟨encode_inx p, t, hexec, by rw [hrp]; exact BitVec.toNat_add _ _, hrest⟩
  · obtain ⟨t, hexec, hrp, hrest⟩ := exists_next_of_exec_setRp (exec_dcx s p)
    exact ⟨encode_dcx p, t, hexec, by rw [hrp]; bv_omega, hrest⟩

/-- Settles O19: a write of HL, then of CY alone. -/
theorem addPairToHl : Obligations.AddPairToHl :=
  fun p s => ⟨encode_dad p, _, exec_dad s p, (pair_hi_lo _).trans (dad16_fst s.hl (s.rp p)), rfl, ⟨rfl, rfl⟩,
    (((Keeps.refl _ s).setRp .hl _ (List.Subset.refl _) nofun).setCy _ List.mem_cons_self).retire 1 10⟩

/-- Settles O20: the correction byte by its two halves, one case for each pair of them. -/
theorem decimalAdjust : Obligations.DecimalAdjust := by
  intro s
  simp only [← daaLow_iff, ← daaHigh_iff]
  have hsum := @daa8_fst_of_corrections s.a s.flags
  refine ⟨rfl, _, rfl, fun hlow hhigh => hsum hlow hhigh,
    fun hlow hhigh => hsum hlow (Bool.eq_false_of_not_eq_true hhigh),
    fun hlow hhigh => hsum (Bool.eq_false_of_not_eq_true hlow) hhigh,
    fun hlow hhigh => ?_, zspOf_flagsOf _ _ _, daa8_ac_iff s.a s.flags,
    Bool.eq_iff_iff.mp (daa8_cy s.a s.flags), ⟨rfl, rfl⟩, keeps_setA_setFlags s _ _ 1 4⟩
  exact (hsum (Bool.eq_false_of_not_eq_true hlow) (Bool.eq_false_of_not_eq_true hhigh)).trans (BitVec.add_zero s.a)

end Sys2Proof.Machine.Claims
end

section
/-! SUPPORT. What an instruction does that writes the result of a logical operation, only compares, or
writes CY alone (`42_logical.md` R170, R180, R184, R185). -/

namespace Sys2Proof.Machine.Claims

/-- A difference is zero exactly where its operands are equal. -/
theorem SubtractFlags.z_iff {a v : Byte} {f : Flags} (h : SubtractFlags a v false f) :
    f.z = true ↔ a = v := by
  obtain ⟨⟨hz, -, -⟩, -, -⟩ := h
  rw [hz, decide_eq_true_iff, Bool.toNat_false, BitVec.sub_zero]
  exact sub_eq_zero

theorem SubtractFlags.cy_iff {a v : Byte} {f : Flags} (h : SubtractFlags a v false f) :
    f.cy = true ↔ a.toNat < v.toNat := by
  obtain ⟨-, hcy, -⟩ := h
  rw [hcy, decide_eq_true_iff, Bool.toNat_false, Nat.add_zero]

variable {i : Instr} {s : State} {len : Word} {cycles : Nat}

/-- An instruction that writes `r` to A and the flags of `r`, CY 0. -/
theorem logicToA_of_exec {r : Byte} {ac : Bool} (hexec : exec i s =
      .next (((s.setReg .a r).setFlags (flagsOf r false ac)).retire len cycles)) :
    LogicToA i r ac len cycles s :=
  ⟨_, hexec, rfl, zspOf_flagsOf r _ _, rfl, rfl, ⟨rfl, rfl⟩, keeps_setA_setFlags s _ _ len cycles⟩

/-- An AND of A and `v`: bit 3 of (A or operand) is bit 3 of one of them. -/
theorem logicToA_and_of_exec {v : Byte} (hexec : exec i s = aluWith .ana v len cycles s) :
    LogicToA i (s.a &&& v) (s.a.getLsbD 3 || v.getLsbD 3) len cycles s :=
  BitVec.getLsbD_or (x := s.a) (y := v) ▸ logicToA_of_exec hexec

/-- A compare writes back the A it read, so only the flags change. -/
theorem aluWith_cmp (s : State) (v : Byte) (len : Word) (cycles : Nat) :
    aluWith .cmp v len cycles s = .next ((s.setFlags (sub8 s.a v false).2).retire len cycles) := rfl

/-- An instruction that compares A with `v`. -/
theorem comparesA_of_exec {v : Byte} (hexec : exec i s = aluWith .cmp v len cycles s) :
    ComparesA i v len cycles s :=
  have hflags := subtractFlags_sub8 s.a v false
  ⟨_, hexec.trans (aluWith_cmp s v len cycles), hflags, hflags.z_iff, hflags.cy_iff, ⟨rfl, rfl⟩,
    ((Keeps.refl _ s).setFlags _ fun n hn => absurd (mem_allFlags n) hn).retire len cycles⟩

/-- An instruction that writes CY alone and goes on. -/
theorem exists_next_of_exec_setCy {cy : Bool} (hexec : exec i s = .next ((s.setCy cy).retire len cycles)) :
    ∃ t, exec i s = .next t ∧ t.flags.cy = cy ∧ GoesOn len cycles s t ∧ Keeps { flags := [.cy] } s t :=
  ⟨_, hexec, rfl, ⟨rfl, rfl⟩, ((Keeps.refl _ s).setCy cy List.mem_cons_self).retire len cycles⟩

end Sys2Proof.Machine.Claims
end

section
/-! SUPPORT. The statements about the logical instructions (`42_logical.md` R170 to R185), settled. -/

namespace Sys2Proof.Machine

open Claims

/-- Settles O21: each form is LOGIC(AND) of its operand. -/
theorem andWithAccumulator : Obligations.AndWithAccumulator :=
  fun r _ s => ⟨⟨encode_aluReg .ana r, logicToA_and_of_exec (exec_aluReg s .ana r)⟩,
    ⟨rfl, logicToA_and_of_exec (i := .anaM) rfl⟩,
    ⟨rfl, logicToA_and_of_exec (i := .ani _) rfl⟩⟩

/-- Settles O22: each form is LOGIC(XOR) or LOGIC(OR) of its operand. -/
theorem exclusiveOrAndOrWithAccumulator : Obligations.ExclusiveOrAndOrWithAccumulator :=
  fun r _ s => ⟨⟨encode_aluReg .xra r, logicToA_of_exec (exec_aluReg s .xra r)⟩,
    ⟨rfl, logicToA_of_exec (i := .xraM) rfl⟩,
    ⟨rfl, logicToA_of_exec (i := .xri _) rfl⟩,
    ⟨encode_aluReg .ora r, logicToA_of_exec (exec_aluReg s .ora r)⟩,
    ⟨rfl, logicToA_of_exec (i := .oraM) rfl⟩,
    ⟨rfl, logicToA_of_exec (i := .ori _) rfl⟩⟩

/-- Settles O23: each form is a compare with its operand. -/
theorem compareWithAccumulator : Obligations.CompareWithAccumulator :=
  fun r _ s => ⟨⟨encode_aluReg .cmp r, comparesA_of_exec (exec_aluReg s .cmp r)⟩,
    ⟨rfl, comparesA_of_exec (i := .cmpM) rfl⟩,
    ⟨rfl, comparesA_of_exec (i := .cpi _) rfl⟩⟩

/-- Settles O24: a write of A alone, and two writes of CY alone. -/
theorem complementAndCarry : Obligations.ComplementAndCarry :=
  fun _ => ⟨⟨rfl, exists_next_of_exec_setReg (i := .cma) (r := .a) rfl⟩,
    ⟨rfl, exists_next_of_exec_setCy (i := .cmc) rfl⟩,
    ⟨rfl, exists_next_of_exec_setCy (i := .stc) rfl⟩⟩

end Sys2Proof.Machine
end

section
/-! SUPPORT. The rotates bit by bit, and the two shifts that the four of them are (`43_rotate.md` R190 to
R193): RLC is a RAL that takes in bit 7, RRC a RAR that takes in bit 0. -/

namespace Sys2Proof.Machine

variable (a : Byte) (cy : Bool) {i : Nat}

theorem rlc8_eq_ral8 : rlc8 a = ral8 a a.msb := rfl

theorem rrc8_eq_rar8 : rrc8 a = rar8 a (a.getLsbD 0) := rfl

/-- `cy` enters at bit 0 and every other bit comes from its right neighbour. -/
theorem getLsbD_ral8 (hi : i < 8) :
    (ral8 a cy).1.getLsbD i = if i = 0 then cy else a.getLsbD (i - 1) := by
  refine (BitVec.getLsbD_concat _ cy i).trans (if_ctx_congr Iff.rfl (fun _ => rfl) fun h0 => ?_)
  rw [BitVec.getLsbD_extractLsb', decide_eq_true (by omega), Bool.true_and, Nat.zero_add]

/-- `cy` enters at bit 7 and every other bit comes from its left neighbour. -/
theorem getLsbD_rar8 (hi : i < 8) :
    (rar8 a cy).1.getLsbD i = if i = 7 then cy else a.getLsbD (i + 1) := by
  refine (BitVec.getLsbD_cons cy _ i).trans (if_ctx_congr Iff.rfl (fun _ => rfl) fun h7 => ?_)
  rw [BitVec.getLsbD_extractLsb', decide_eq_true (by omega), Bool.true_and, Nat.add_comm]

theorem ral8_fst : (ral8 a cy).1 = a <<< 1 ||| BitVec.ofNat 8 cy.toNat := by
  refine BitVec.eq_of_getLsbD_eq fun i hi => ?_
  rw [getLsbD_ral8 a cy hi, BitVec.getLsbD_or, BitVec.getLsbD_shiftLeft, BitVec.getLsbD_ofNat,
    Nat.testBit_bool_toNat]
  cases i with
  | zero => simp
  | succ i => simp [hi]

theorem rar8_fst : (rar8 a cy).1 = a >>> 1 ||| BitVec.ofNat 8 (128 * cy.toNat) := by
  refine BitVec.eq_of_getLsbD_eq fun i hi => ?_
  have hcy : (128 * cy.toNat).testBit i = (decide (7 ≤ i) && cy.toNat.testBit (i - 7)) :=
    Nat.testBit_two_pow_mul (i := 7)
  rw [getLsbD_rar8 a cy hi, BitVec.getLsbD_or, BitVec.getLsbD_ushiftRight, BitVec.getLsbD_ofNat, hcy,
    Nat.testBit_bool_toNat, Nat.add_comm 1 i]
  by_cases h7 : i = 7
  · simp [h7]
  · have hle : ¬ 7 ≤ i := by omega
    simp [h7, hle]

theorem rlc8_fst : (rlc8 a).1 = a.rotateLeft 1 := by
  refine BitVec.eq_of_getLsbD_eq fun i hi => ?_
  rw [rlc8_eq_ral8, getLsbD_ral8 a _ hi, BitVec.getLsbD_rotateLeft, BitVec.msb_eq_getLsbD_last]
  cases i with
  | zero => rfl
  | succ i => simp [hi]

theorem rrc8_fst : (rrc8 a).1 = a.rotateRight 1 := by
  refine BitVec.eq_of_getLsbD_eq fun i hi => ?_
  rw [rrc8_eq_rar8, getLsbD_rar8 a _ hi, BitVec.getLsbD_rotateRight]
  by_cases h7 : i = 7
  · simp [h7]
  · have hlt : i < 7 := by omega
    simp [h7, hlt, Nat.add_comm]

end Sys2Proof.Machine
end

section
/-! SUPPORT. What an instruction does that writes A and CY, and the statement about the rotates (`43_rotate.md`
R190 to R193), settled. -/

namespace Sys2Proof.Machine

open Claims

/-- An instruction that writes A and the bit moved out, and goes on. -/
theorem Claims.writesAAndCy_of_exec {i : Instr} {s : State} {out : Byte × Bool} {v : Byte} {cy : Bool}
    (hexec : exec i s = rotateTo out s) (hv : out.1 = v) (hcy : out.2 = cy) : WritesAAndCy i v cy s :=
  ⟨_, hexec, hv, hcy, ⟨rfl, rfl⟩,
    (((Keeps.refl _ s).setReg out.1 List.mem_cons_self).setCy out.2 List.mem_cons_self).retire 1 4⟩

/-- Settles O25: each form writes its rotation of A, and the bit moved out is bit 7 or bit 0. -/
theorem rotateAccumulator : Obligations.RotateAccumulator :=
  fun s => ⟨⟨rfl, writesAAndCy_of_exec (i := .rlc) rfl (rlc8_fst s.a) s.a.msb_eq_getLsbD_last⟩,
    ⟨rfl, writesAAndCy_of_exec (i := .rrc) rfl (rrc8_fst s.a) rfl⟩,
    ⟨rfl, writesAAndCy_of_exec (i := .ral) rfl (ral8_fst s.a s.flags.cy) s.a.msb_eq_getLsbD_last⟩,
    ⟨rfl, writesAAndCy_of_exec (i := .rar) rfl (rar8_fst s.a s.flags.cy) rfl⟩⟩

end Sys2Proof.Machine
end

section
/-! SUPPORT. The frame of a jump, a push and a pop, what a call does to the stack, and what an instruction does
that tests a condition (`44_branch.md` R200 to R228). -/

namespace Sys2Proof.Machine.Claims

variable {w : Writes} {s t : State}

theorem Keeps.jump (h : Keeps w s t) (target : Word) (cycles : Nat) : Keeps w s (t.jump target cycles) := h

/-- A push is two stores and a write of SP. -/
theorem Keeps.push16 (h : Keeps w s t) (hcanon : MemoryCanonical s → MemoryCanonical t) (v : Word)
    (hsp : w.sp = true) (hhigh : t.sp - 1 ∈ w.stored) (hlow : t.sp - 2 ∈ w.stored) :
    Keeps w s (t.push16 v) :=
  have hstored := (h.writeByte hcanon (hi v) hhigh).writeByte
    (fun hs => State.wf_writeByte (t.sp - 1) (hi v) (hcanon hs)) (lo v) hlow
  hstored.setSp (t.sp - 2) hsp

/-- A pop writes SP alone. -/
theorem Keeps.dropTop (h : Keeps w s t) (hsp : w.sp = true) : Keeps w s t.dropTop :=
  h.setSp (t.sp + 2) hsp

/-- The return address of a call lies on the stack. -/
theorem pushed_call (s : State) (ret target : Word) (cycles : Nat) :
    Pushed ret s (s.call ret target cycles) :=
  ⟨rfl, fun hs => ⟨State.push16_high ret hs, State.push16_low ret hs⟩⟩

theorem keeps_call (s : State) (ret target : Word) (cycles : Nat) :
    Keeps (pushWrites s) s (s.call ret target cycles) :=
  ((Keeps.refl _ s).push16 id ret rfl (by simp [pushWrites]) (by simp [pushWrites])).jump target cycles

theorem keeps_ret (s : State) (cycles : Nat) : Keeps { sp := true } s (s.ret cycles) :=
  ((Keeps.refl _ s).dropTop rfl).jump s.top16 cycles

variable {i : Instr} {cc : Cond} {taken : Prop}

/-- A conditional jump whose condition means `taken`. -/
theorem jumpsWhen_of_exec [Decidable taken] {a16 : Word} (hexec : exec i s = jumpIf cc a16 s)
    (hcond : condition cc s.flags = true ↔ taken) : JumpsWhen taken i a16 s := by
  rw [jumpIf] at hexec
  by_cases htaken : taken
  · rw [if_pos (hcond.mpr htaken)] at hexec
    exact ⟨_, hexec, (if_pos htaken).symm, rfl, (Keeps.refl _ s).jump a16 10⟩
  · rw [if_neg (mt hcond.mp htaken)] at hexec
    exact ⟨_, hexec, (if_neg htaken).symm, rfl, (Keeps.refl _ s).retire 3 10⟩

/-- A conditional call whose condition means `taken`. -/
theorem callsWhen_of_exec {a16 : Word} (hexec : exec i s = callIf cc a16 s)
    (hcond : condition cc s.flags = true ↔ taken) : CallsWhen taken i a16 s := by
  rw [callIf] at hexec
  by_cases htaken : taken
  · rw [if_pos (hcond.mpr htaken)] at hexec
    exact ⟨_, hexec, fun _ => ⟨rfl, rfl, pushed_call s _ a16 17, keeps_call s _ a16 17⟩, (absurd htaken ·)⟩
  · rw [if_neg (mt hcond.mp htaken)] at hexec
    exact ⟨_, hexec, (absurd · htaken), fun _ => ⟨⟨rfl, rfl⟩, (Keeps.refl _ s).retire 3 11⟩⟩

/-- A conditional return whose condition means `taken`. -/
theorem returnsWhen_of_exec (hexec : exec i s = returnIf cc s)
    (hcond : condition cc s.flags = true ↔ taken) : ReturnsWhen taken 11 i s := by
  rw [returnIf] at hexec
  by_cases htaken : taken
  · rw [if_pos (hcond.mpr htaken)] at hexec
    exact ⟨_, hexec, fun _ => ⟨rfl, rfl, rfl, keeps_ret s 11⟩, (absurd htaken ·)⟩
  · rw [if_neg (mt hcond.mp htaken)] at hexec
    exact ⟨_, hexec, (absurd · htaken), fun _ => ⟨⟨rfl, rfl⟩, (Keeps.refl _ s).retire 1 5⟩⟩

end Sys2Proof.Machine.Claims
end

section
/-! SUPPORT. The four conditions that ask for a 0 flag (`44_branch.md` R200); the other four are their flags. -/

namespace Sys2Proof.Machine

variable (f : Flags)

theorem condition_nz : condition .nz f = true ↔ f.z = false := .of_eq (Bool.not_eq_true' f.z)

theorem condition_nc : condition .nc f = true ↔ f.cy = false := .of_eq (Bool.not_eq_true' f.cy)

theorem condition_po : condition .po f = true ↔ f.p = false := .of_eq (Bool.not_eq_true' f.p)

theorem condition_p : condition .p f = true ↔ f.s = false := .of_eq (Bool.not_eq_true' f.s)

end Sys2Proof.Machine
end

section
/-! SUPPORT. The undocumented first bytes as the silicon runs them (`30_encoding.md` R101), and RST and its
address by number (`44_branch.md` R228). -/

namespace Sys2Proof.Machine

theorem undocumentedOn_of_aliases {cfg : Config} (h : cfg.undocPolicy = .aliases) (opcode : Byte) (s : State) :
    undocumentedOn cfg opcode s = silicon opcode s := by
  rw [undocumentedOn, h]

/-- The operand of a three-byte instruction is the word one past its first byte (`30_encoding.md` R93). -/
theorem State.readWord_add_one (s : State) (addr : Word) :
    s.readWord (addr + 1) = pair (s.readByte (addr + 2)) (s.readByte (addr + 1)) := by
  rw [State.readWord, BitVec.add_assoc]
  rfl

theorem siliconJump_eq_exec (s : State) :
    siliconJump s = exec (.jmp (pair (s.readByte (s.pc + 2)) (s.readByte (s.pc + 1)))) s := by
  rw [← State.readWord_add_one]
  rfl

theorem siliconCall_eq_exec (s : State) :
    siliconCall s = exec (.call (pair (s.readByte (s.pc + 2)) (s.readByte (s.pc + 1)))) s := by
  rw [← State.readWord_add_one]
  rfl

/-- Each of the three first bytes is the silicon's CALL. -/
theorem silicon_eq_siliconCall (s : State) :
    ∀ op ∈ ([0xDD, 0xED, 0xFD] : List Byte), silicon op s = siliconCall s := by
  simp only [List.forall_mem_cons]
  exact ⟨rfl, rfl, rfl, nofun⟩

theorem encode_rst (n : Fin 8) : encode (.rst n) = [BitVec.ofNat 8 (0xC7 + 8 * n.val)] := by
  fin_cases n <;> rfl

theorem exec_rst (n : Fin 8) (s : State) : exec (.rst n) s = restart n s := by
  fin_cases n <;> rfl

/-- The restart addresses are below 65,536. -/
theorem restartAddress_toNat (n : Fin 8) : (restartAddress n).toNat = 8 * n.val :=
  Nat.mod_eq_of_lt (by omega)

end Sys2Proof.Machine
end

section
/-! SUPPORT. The statements about control transfer (`44_branch.md` R201 to R229), settled. -/

namespace Sys2Proof.Machine

open Claims

/-- Settles O26: each conditional jump is its condition's, and the silicon's 0xCB is JMP. -/
theorem jumpsUnconditionalAndConditional : Obligations.JumpsUnconditionalAndConditional :=
  fun a16 s => ⟨⟨rfl, ⟨_, rfl, (if_pos trivial).symm, rfl, (Keeps.refl _ s).jump a16 10⟩,
      fun _ hcfg => (undocumentedOn_of_aliases hcfg 0xCB s).trans (siliconJump_eq_exec s)⟩,
    ⟨rfl, jumpsWhen_of_exec (cc := .nz) rfl (condition_nz s.flags)⟩,
    ⟨rfl, jumpsWhen_of_exec (cc := .z) rfl Iff.rfl⟩,
    ⟨rfl, jumpsWhen_of_exec (cc := .nc) rfl (condition_nc s.flags)⟩,
    ⟨rfl, jumpsWhen_of_exec (cc := .c) rfl Iff.rfl⟩,
    ⟨rfl, jumpsWhen_of_exec (cc := .po) rfl (condition_po s.flags)⟩,
    ⟨rfl, jumpsWhen_of_exec (cc := .pe) rfl Iff.rfl⟩,
    ⟨rfl, jumpsWhen_of_exec (cc := .p) rfl (condition_p s.flags)⟩,
    ⟨rfl, jumpsWhen_of_exec (cc := .m) rfl Iff.rfl⟩⟩

/-- Settles O27: each conditional call is its condition's, and three of the silicon's bytes are CALL. -/
theorem callsUnconditionalAndConditional : Obligations.CallsUnconditionalAndConditional :=
  fun a16 s => ⟨⟨rfl, ⟨_, rfl,
        fun _ => ⟨rfl, rfl, pushed_call s (s.pc + 3) a16 17, keeps_call s (s.pc + 3) a16 17⟩,
        (absurd trivial ·)⟩,
      fun _ hcfg op hop => (undocumentedOn_of_aliases hcfg op s).trans
        ((silicon_eq_siliconCall s op hop).trans (siliconCall_eq_exec s))⟩,
    ⟨rfl, callsWhen_of_exec (cc := .nz) rfl (condition_nz s.flags)⟩,
    ⟨rfl, callsWhen_of_exec (cc := .z) rfl Iff.rfl⟩,
    ⟨rfl, callsWhen_of_exec (cc := .nc) rfl (condition_nc s.flags)⟩,
    ⟨rfl, callsWhen_of_exec (cc := .c) rfl Iff.rfl⟩,
    ⟨rfl, callsWhen_of_exec (cc := .po) rfl (condition_po s.flags)⟩,
    ⟨rfl, callsWhen_of_exec (cc := .pe) rfl Iff.rfl⟩,
    ⟨rfl, callsWhen_of_exec (cc := .p) rfl (condition_p s.flags)⟩,
    ⟨rfl, callsWhen_of_exec (cc := .m) rfl Iff.rfl⟩⟩

/-- Settles O28: each conditional return is its condition's, and the silicon's 0xD9 is RET. -/
theorem returnsUnconditionalAndConditional : Obligations.ReturnsUnconditionalAndConditional :=
  fun s => ⟨⟨rfl, ⟨_, rfl, fun _ => ⟨rfl, rfl, rfl, keeps_ret s 10⟩, (absurd trivial ·)⟩,
      fun _ hcfg => undocumentedOn_of_aliases hcfg 0xD9 s⟩,
    ⟨rfl, returnsWhen_of_exec (cc := .nz) rfl (condition_nz s.flags)⟩,
    ⟨rfl, returnsWhen_of_exec (cc := .z) rfl Iff.rfl⟩,
    ⟨rfl, returnsWhen_of_exec (cc := .nc) rfl (condition_nc s.flags)⟩,
    ⟨rfl, returnsWhen_of_exec (cc := .c) rfl Iff.rfl⟩,
    ⟨rfl, returnsWhen_of_exec (cc := .po) rfl (condition_po s.flags)⟩,
    ⟨rfl, returnsWhen_of_exec (cc := .pe) rfl Iff.rfl⟩,
    ⟨rfl, returnsWhen_of_exec (cc := .p) rfl (condition_p s.flags)⟩,
    ⟨rfl, returnsWhen_of_exec (cc := .m) rfl Iff.rfl⟩⟩

/-- Settles O29: a call to the restart address. -/
theorem restartCalls : Obligations.RestartCalls :=
  fun n s => ⟨encode_rst n, _, exec_rst n s, restartAddress_toNat n, rfl,
    pushed_call s (s.pc + 1) (restartAddress n) 11, keeps_call s (s.pc + 1) (restartAddress n) 11⟩

/-- Settles O30: a jump to HL. -/
theorem jumpToHl : Obligations.JumpToHl :=
  fun s => ⟨rfl, _, rfl, rfl, rfl, (Keeps.refl _ s).jump s.hl 5⟩

end Sys2Proof.Machine
end

section
/-! SUPPORT. PUSH and POP by pair: the encoding, the meaning, the flag byte as a number (`10_state.md` R28) and
the frame of what a pop writes (`45_stack.md` R241 to R244). -/

namespace Sys2Proof.Machine

open Claims

theorem encode_push (p : StackPair) : encode (.push p) = [0xC5 + 16 * p.code] := by
  cases p <;> rfl

theorem encode_pop (p : StackPair) : encode (.pop p) = [0xC1 + 16 * p.code] := by
  cases p <;> rfl

/-- A push goes on in the state of a call of the next instruction. -/
theorem exec_push (s : State) (p : StackPair) :
    exec (.push p) s = .next (s.call (s.stackPair p) (s.pc + 1) 11) := by
  cases p <;> rfl

theorem exec_pop (s : State) (p : StackPair) : exec (.pop p) s = popPair p s := by
  cases p <;> rfl

/-- The flag byte is the sum of the flags at their bit values, with bit 1 set. -/
theorem flagByte_eq_ofNat (f : Flags) :
    flagByte f = BitVec.ofNat 8 (128 * f.s.toNat + 64 * f.z.toNat + 16 * f.ac.toNat + 4 * f.p.toNat + 2 +
      f.cy.toNat) := by
  obtain ⟨s, z, ac, p, cy⟩ := f
  revert s z ac p cy
  decide

/-- The writes of a pop: SP and two registers, or SP, A and the flags. -/
def Claims.popWrites : StackPair → Writes
  | .bc => { regs := [.b, .c], sp := true }
  | .de => { regs := [.d, .e], sp := true }
  | .hl => { regs := [.h, .l], sp := true }
  | .psw => { regs := [.a], sp := true, flags := allFlags }

theorem Claims.popWrites_sp (p : StackPair) : (popWrites p).sp = true := by
  cases p <;> rfl

theorem Claims.keeps_pop (s : State) (p : StackPair) :
    Keeps (popWrites p) s ((s.dropTop.setStackPair p s.top16).retire 1 10) := by
  have hdrop : Keeps (popWrites p) s s.dropTop := (Keeps.refl _ s).dropTop (popWrites_sp p)
  refine Keeps.retire ?_ 1 10
  cases p with
  | bc | de | hl =>
    exact (hdrop.setReg (hi s.top16) List.mem_cons_self).setReg (lo s.top16) (.tail _ List.mem_cons_self)
  | psw =>
    exact (hdrop.setReg (hi s.top16) List.mem_cons_self).setFlags (flagsOfByte (lo s.top16))
      fun n hn => absurd (mem_allFlags n) hn

end Sys2Proof.Machine
end

section
/-! SUPPORT. The statements about the stack (`45_stack.md` R241 to R246), settled. `pushPair` and `popPair` are
already the model's functions, so the theorems of these names stand in a namespace of their own. -/

namespace Sys2Proof.Machine.Claims.Stack

/-- Settles O31: the value pushed is the pair, for PSW with the flag byte written as a number. -/
theorem pushPair : Obligations.PushPair := by
  intro p s
  refine ⟨encode_push p, _, exec_push s p, ?_, ⟨rfl, rfl⟩, keeps_call s (s.stackPair p) (s.pc + 1) 11⟩
  have hpushed := pushed_call s (s.stackPair p) (s.pc + 1) 11
  cases p with
  | bc | de | hl => exact hpushed
  | psw =>
    rw [← flagByte_eq_ofNat]
    exact hpushed

/-- Settles O32: the two halves of the value popped are the bytes at SP + 1 and SP. -/
theorem popPair : Obligations.PopPair := by
  intro p s low high
  refine ⟨encode_pop p, _, exec_pop s p, s.dropTop.setStackPair_sp p s.top16,
    goesOn_retire 1 10 (s.dropTop.setStackPair_pc p _) (s.dropTop.setStackPair_cyc p _), ?_⟩
  have hhigh : hi s.top16 = high := hi_pair high low
  have hlow : lo s.top16 = low := lo_pair high low
  have hframe := keeps_pop s p
  cases p with
  | bc | de | hl => exact ⟨hhigh, hlow, hframe⟩
  | psw =>
    have hflags : flagsOfByte (lo s.top16) = flagsOfByte low := congrArg flagsOfByte hlow
    exact ⟨hhigh, congrArg Flags.s hflags, congrArg Flags.z hflags, congrArg Flags.ac hflags,
      congrArg Flags.p hflags, congrArg Flags.cy hflags, hframe⟩

/-- Settles O33: two stores, of which the second keeps the first, and a write of HL; a write of SP. -/
theorem exchangeTopAndLoadSp : Obligations.ExchangeTopAndLoadSp := by
  intro s
  constructor
  · have hframe : Keeps { regs := [.h, .l], stored := [s.sp, s.sp + 1] } s
        ((s.writeByte (s.sp + 1) s.h).writeByte s.sp s.l) :=
      ((Keeps.refl _ s).writeByte id s.h (by simp)).writeByte (State.wf_writeByte (s.sp + 1) s.h) s.l (by simp)
    refine ⟨rfl, _, rfl, lo_pair _ _, hi_pair _ _, fun hs => ?_, ⟨rfl, rfl⟩,
      (hframe.setRp .hl s.top16 (List.Subset.refl _) nofun).retire 1 18⟩
    have hcanon := State.wf_writeByte (s.sp + 1) s.h hs
    have hne : s.sp + 1 ≠ s.sp := by bv_omega
    exact ⟨State.readByte_writeByte_same s.sp s.l hcanon,
      (State.readByte_writeByte_other s.l hne hcanon).trans (State.readByte_writeByte_same (s.sp + 1) s.h hs)⟩
  · exact ⟨rfl, _, rfl, rfl, ⟨rfl, rfl⟩, ((Keeps.refl _ s).setSp s.hl rfl).retire 1 5⟩

end Sys2Proof.Machine.Claims.Stack
end

section
/-! SUPPORT. EI, DI, HLT and NOP (`46_io_control.md` R257 to R260), settled: the frame of a write of INTE and of a
write of HALTED, and the silicon's NOPs. -/

namespace Sys2Proof.Machine

open Claims

theorem Claims.Keeps.setInte {w : Writes} {s t : State} (h : Keeps w s t) (b : Bool) (hw : w.inte = true) :
    Keeps w s { t with inte := b } := by
  obtain ⟨hregs, hsp, hflags, -, hrest⟩ := h
  exact ⟨hregs, hsp, hflags, fun hnot => absurd (hw.symm.trans hnot) nofun, hrest⟩

theorem Claims.Keeps.setHalted {w : Writes} {s t : State} (h : Keeps w s t) (b : Bool)
    (hw : w.halted = true) : Keeps w s { t with halted := b } := by
  obtain ⟨hregs, hsp, hflags, hinte, -, hrest⟩ := h
  exact ⟨hregs, hsp, hflags, hinte, fun hnot => absurd (hw.symm.trans hnot) nofun, hrest⟩

/-- An instruction that writes `b` to INTE and goes on. -/
theorem Claims.exists_next_of_exec_setInte {i : Instr} {s : State} {b : Bool} {len : Word} {cycles : Nat}
    (hexec : exec i s = .next (State.retire { s with inte := b } len cycles)) :
    ∃ t, exec i s = .next t ∧ t.inte = b ∧ GoesOn len cycles s t ∧ Keeps { inte := true } s t :=
  ⟨_, hexec, rfl, goesOn_retire len cycles rfl rfl, ((Keeps.refl _ s).setInte b rfl).retire len cycles⟩

/-- Each of the seven first bytes is the silicon's NOP (`30_encoding.md` R101). -/
theorem silicon_eq_noOperation (s : State) :
    ∀ op ∈ ([0x08, 0x10, 0x18, 0x20, 0x28, 0x30, 0x38] : List Byte), silicon op s = noOperation s := by
  simp only [List.forall_mem_cons]
  exact ⟨rfl, rfl, rfl, rfl, rfl, rfl, rfl, nofun⟩

/-- Settles O36: each is a write of INTE alone. -/
theorem enableAndDisableInterrupts : Obligations.EnableAndDisableInterrupts :=
  fun _ => ⟨⟨rfl, exists_next_of_exec_setInte (i := .ei) rfl⟩,
    ⟨rfl, exists_next_of_exec_setInte (i := .di) rfl⟩⟩

/-- Settles O37: a write of HALTED alone, and no write; seven of the silicon's bytes are NOP. -/
theorem haltAndNoOperation : Obligations.HaltAndNoOperation :=
  fun s => ⟨⟨rfl, _, rfl, rfl, goesOn_retire 1 7 rfl rfl, ((Keeps.refl _ s).setHalted true rfl).retire 1 7⟩,
    ⟨rfl, _, rfl, goesOn_retire 1 4 rfl rfl, (Keeps.refl _ s).retire 1 4⟩,
    fun _ hcfg op hop => (undocumentedOn_of_aliases hcfg op s).trans (silicon_eq_noOperation s op hop)⟩

end Sys2Proof.Machine
end

section
/-! SUPPORT. What one call of `execute_one`, one interrupt and one turn of the scheduler's loops do: the equation
of each case, whether the call completes or faults, and what it costs (`60_exceptions.md` R270, R275, R276, R283,
R284). -/

namespace Sys2Proof.Machine

variable {s t : State} {i : Instr}

/-! ### Instructions -/

/-- An instruction completes at a cost of 4 to 18 cycles, or raises UnsupportedInstruction with its first byte. -/
theorem exec_completes_or_faults (h : exec i s = .next t) :
    (t.status = s.status ∧ s.cyc + 4 ≤ t.cyc ∧ t.cyc ≤ s.cyc + 18) ∨
    (∃ opcode, i.documented = false ∧ encode i = [opcode] ∧ t = s.raiseUnsupported opcode) := by
  cases execRule_of_exec h with
  | undocumented hdoc henc => exact .inr ⟨_, hdoc, henc, rfl⟩
  | _ => exact .inl (by simp)

/-- Every rule has a next state: the exception too is one. -/
theorem ExecRule.exists_next {answer : Answer} (h : ExecRule s i answer) : ∃ t, answer = .next t := by
  cases h with
  | _ => exact ⟨_, rfl⟩

/-- What a fetch finds undocumented has the byte at PC as its first byte. -/
theorem State.undocumented_fetch {opcode : Byte} (hdoc : s.fetch.documented = false)
    (henc : encode s.fetch = [opcode]) : opcode = s.readByte s.pc ∧ opcode ∈ undocumentedOpcodes := by
  obtain ⟨b2, b3, hfetch⟩ := s.fetch_eq_decodeOp
  rw [hfetch] at hdoc henc
  have hhead := head?_encode_decodeOp (s.readByte s.pc) b2 b3
  rw [henc] at hhead
  obtain rfl : opcode = s.readByte s.pc := Option.some.inj hhead
  rw [documented_decodeOp] at hdoc
  exact ⟨rfl, by simpa using hdoc⟩

/-! ### `execute_one` -/

theorem executeOne_of_faulted {opcode : Byte} {pc : Word} (h : s.status = .faulted opcode pc) :
    executeOne s = .fault (.faulted opcode pc) := by
  rw [executeOne, h]

theorem executeOne_of_halted (hrun : s.status = .running) (hhalted : s.halted = true) :
    executeOne s = .next { s with cyc := s.cyc + 4 } := by
  rw [executeOne, hrun, hhalted]
  rfl

theorem exists_next_of_executeOne (hrun : s.status = .running) : ∃ t, executeOne s = .next t := by
  cases hhalted : s.halted with
  | true => exact ⟨_, executeOne_of_halted hrun hhalted⟩
  | false =>
    rw [executeOne_of_running hrun hhalted]
    exact (execRule_exec s s.fetch).exists_next

/-- A call of `execute_one` completes at a cost of 4 to 18 cycles, or raises UnsupportedInstruction with the
undocumented byte at PC. -/
theorem executeOne_completes_or_faults (h : executeOne s = .next t) :
    (t.status = .running ∧ s.cyc + 4 ≤ t.cyc ∧ t.cyc ≤ s.cyc + 18) ∨
    (s.readByte s.pc ∈ undocumentedOpcodes ∧ t = s.raiseUnsupported (s.readByte s.pc)) := by
  obtain ⟨hrun, ⟨-, rfl⟩ | ⟨-, hexec⟩⟩ := executeOne_cases h
  · exact .inl ⟨hrun, by simp⟩
  · obtain ⟨hstatus, hcost⟩ | ⟨opcode, hdoc, henc, rfl⟩ := exec_completes_or_faults hexec
    · exact .inl ⟨hstatus.trans hrun, hcost⟩
    · obtain ⟨rfl, hundoc⟩ := State.undocumented_fetch hdoc henc
      exact .inr ⟨hundoc, rfl⟩

theorem executeOne_paused (h : executeOne s = .next t) : t.paused = s.paused := by
  obtain ⟨-, ⟨-, rfl⟩ | ⟨-, hexec⟩⟩ := executeOne_cases h
  · rfl
  · obtain ⟨-, -, hpaused, -⟩ := exec_keeps_host_state hexec
    exact hpaused

theorem executeOne_phase (h : executeOne s = .next t) : t.phase = s.phase := by
  obtain ⟨-, ⟨-, rfl⟩ | ⟨-, hexec⟩⟩ := executeOne_cases h
  · rfl
  · obtain ⟨-, -, -, hphase⟩ := exec_keeps_host_state hexec
    exact hphase

/-! ### Interrupts -/

theorem State.interrupt_of_enabled (n : Fin 8) (h : s.inte = true) : s.interrupt n = s.acceptInterrupt n :=
  if_pos h

theorem State.interrupt_of_disabled (n : Fin 8) (h : s.inte = false) : s.interrupt n = s :=
  if_neg (by simp [h])

@[simp] theorem State.interrupt_status (s : State) (n : Fin 8) : (s.interrupt n).status = s.status := by
  obtain ⟨-, heq⟩ | ⟨-, heq⟩ := s.interrupt_cases n <;> rw [heq]
  rfl

@[simp] theorem State.interrupt_cyc (s : State) (n : Fin 8) : (s.interrupt n).cyc = s.cyc := by
  obtain ⟨-, heq⟩ | ⟨-, heq⟩ := s.interrupt_cases n <;> rw [heq]
  rfl

@[simp] theorem State.interrupt_paused (s : State) (n : Fin 8) : (s.interrupt n).paused = s.paused := by
  obtain ⟨-, heq⟩ | ⟨-, heq⟩ := s.interrupt_cases n <;> rw [heq]
  rfl

/-! ### The scheduler's turns -/

theorem firstHalfTurn_of_le (hcyc : 16666 ≤ s.cyc) :
    firstHalfTurn Config.hardware s = .next { s.interrupt 1 with phase := .secondHalf } := by
  rw [← State.offerInterrupt_eq]
  exact if_neg (Nat.not_lt.mpr hcyc)

theorem secondHalfTurn_of_le (hcyc : 33333 ≤ s.cyc) :
    secondHalfTurn Config.hardware s = .next { s.interrupt 2 with phase := .betweenFrames } := by
  rw [← State.offerInterrupt_eq]
  exact if_neg (Nat.not_lt.mpr hcyc)

theorem step_of_paused (hrun : s.status = .running) (hphase : s.phase = .betweenFrames)
    (hpaused : s.paused = true) : step s = .next s := by
  rw [step, schedulerStep, hrun, hphase]
  exact if_pos hpaused

/-- The first step of a frame is the step from the frame's start. -/
theorem step_startFrame (hrun : s.status = .running) (hphase : s.phase = .betweenFrames)
    (hpaused : s.paused = false) : step s = step s.startFrame := by
  rw [step_of_betweenFrames hrun hphase hpaused, step_of_firstHalf (s := s.startFrame) hrun rfl]

/-- A step of this hardware that answers a next state: a frozen frame; an `execute_one` call below the threshold
of the state's loop, on the state itself or, between frames, on the start of the frame; or an offer at it. -/
theorem step_cases (h : step s = .next t) :
    s.status = .running ∧
    ((s.phase = .betweenFrames ∧ s.paused = true ∧ t = s) ∨
     (s.phase = .betweenFrames ∧ s.paused = false ∧ executeOne s.startFrame = .next t) ∨
     (s.phase = .firstHalf ∧ s.cyc < 16666 ∧ executeOne s = .next t) ∨
     (s.phase = .firstHalf ∧ 16666 ≤ s.cyc ∧ t = { s.interrupt 1 with phase := .secondHalf }) ∨
     (s.phase = .secondHalf ∧ s.cyc < 33333 ∧ executeOne s = .next t) ∨
     (s.phase = .secondHalf ∧ 33333 ≤ s.cyc ∧ t = { s.interrupt 2 with phase := .betweenFrames })) := by
  obtain ⟨hrun, ⟨hphase, hfrozen, rfl⟩ | ⟨hphase, hfrozen, hturn⟩ | ⟨hphase, hturn⟩ | ⟨hphase, hturn⟩⟩ :=
    schedulerStep_cases h
  · exact ⟨hrun, .inl ⟨hphase, hfrozen, rfl⟩⟩
  · rw [firstHalfTurn_of_lt (s := s.startFrame) (by simp)] at hturn
    exact ⟨hrun, .inr (.inl ⟨hphase, hfrozen, hturn⟩)⟩
  · obtain ⟨hcyc, hexec⟩ | ⟨hcyc, rfl⟩ := firstHalfTurn_cases hturn
    · exact ⟨hrun, .inr (.inr (.inl ⟨hphase, hcyc, hexec⟩))⟩
    · rw [State.offerInterrupt_eq]
      exact ⟨hrun, .inr (.inr (.inr (.inl ⟨hphase, hcyc, rfl⟩)))⟩
  · obtain ⟨hcyc, hexec⟩ | ⟨hcyc, rfl⟩ := secondHalfTurn_cases hturn
    · exact ⟨hrun, .inr (.inr (.inr (.inr (.inl ⟨hphase, hcyc, hexec⟩))))⟩
    · rw [State.offerInterrupt_eq]
      exact ⟨hrun, .inr (.inr (.inr (.inr (.inr ⟨hphase, hcyc, rfl⟩))))⟩

end Sys2Proof.Machine
end

section
/-! SUPPORT. The count of a frame and the recorded fault: what each says of a state, and what keeps it
(`60_exceptions.md` R270, R285). -/

namespace Sys2Proof.Machine

variable {s t : State}

theorem frameCountFits_of_betweenFrames (hphase : s.phase = .betweenFrames) :
    FrameCountFits s ↔ s.cyc = 0 ∨ 33333 ≤ s.cyc ∧ s.cyc ≤ 33350 := by
  simp [FrameCountFits, frameCountFits, hphase]

theorem frameCountFits_of_firstHalf (hphase : s.phase = .firstHalf) :
    FrameCountFits s ↔ s.cyc ≤ 16683 := by
  simp [FrameCountFits, frameCountFits, hphase]

theorem frameCountFits_of_secondHalf (hphase : s.phase = .secondHalf) :
    FrameCountFits s ↔ 16666 ≤ s.cyc ∧ s.cyc ≤ 33350 := by
  simp [FrameCountFits, frameCountFits, hphase]

/-- An `execute_one` call counts at most 18 cycles, and none when it faults. -/
theorem executeOne_cyc_bounds (h : executeOne s = .next t) : s.cyc ≤ t.cyc ∧ t.cyc ≤ s.cyc + 18 := by
  obtain ⟨-, hmin, hmax⟩ | ⟨-, rfl⟩ := executeOne_completes_or_faults h
  · exact ⟨by omega, hmax⟩
  · exact ⟨Nat.le_refl _, Nat.le_add_right _ _⟩

/-- Below the first threshold, 18 more cycles are at most 17 past it. -/
theorem executeOne_keeps_firstHalf_count (h : executeOne s = .next t) (hphase : s.phase = .firstHalf)
    (hcyc : s.cyc < 16666) : FrameCountFits t := by
  obtain ⟨-, hmax⟩ := executeOne_cyc_bounds h
  exact (frameCountFits_of_firstHalf ((executeOne_phase h).trans hphase)).mpr (by omega)

/-- Settles O47: below a threshold a call counts at most 18 cycles; at a threshold the count stands, in the
range of the next position. -/
theorem stepKeepsFrameCount : Obligations.StepKeepsFrameCount := by
  intro s t hfits h
  obtain ⟨-, ⟨-, -, rfl⟩ | ⟨-, -, hexec⟩ | ⟨hphase, hcyc, hexec⟩ | ⟨hphase, hcyc, rfl⟩ |
    ⟨hphase, hcyc, hexec⟩ | ⟨hphase, hcyc, rfl⟩⟩ := step_cases h
  · exact hfits
  · exact executeOne_keeps_firstHalf_count hexec rfl (by simp)
  · exact executeOne_keeps_firstHalf_count hexec hphase hcyc
  · rw [frameCountFits_of_firstHalf hphase] at hfits
    refine (frameCountFits_of_secondHalf rfl).mpr ?_
    rw [State.interrupt_cyc]
    omega
  · rw [frameCountFits_of_secondHalf hphase] at hfits
    obtain ⟨hmin, hmax⟩ := executeOne_cyc_bounds hexec
    exact (frameCountFits_of_secondHalf ((executeOne_phase hexec).trans hphase)).mpr (by omega)
  · rw [frameCountFits_of_secondHalf hphase] at hfits
    refine (frameCountFits_of_betweenFrames rfl).mpr ?_
    rw [State.interrupt_cyc]
    omega

theorem faultRecordTrue_of_running (hrun : s.status = .running) : FaultRecordTrue s := by
  simp [FaultRecordTrue, faultRecordTrue, hrun]

theorem faultRecordTrue_raiseUnsupported (hundoc : s.readByte s.pc ∈ undocumentedOpcodes) :
    FaultRecordTrue (s.raiseUnsupported (s.readByte s.pc)) := by
  have hread : (s.raiseUnsupported (s.readByte s.pc)).readByte s.pc = s.readByte s.pc := rfl
  simp [FaultRecordTrue, faultRecordTrue, hundoc, hread]

/-- A call of `execute_one` either leaves the machine running or records the undocumented byte at PC. -/
theorem executeOne_faultRecordTrue (h : executeOne s = .next t) : FaultRecordTrue t := by
  obtain ⟨hrun, -⟩ | ⟨hundoc, rfl⟩ := executeOne_completes_or_faults h
  · exact faultRecordTrue_of_running hrun
  · exact faultRecordTrue_raiseUnsupported hundoc

/-- Settles O48: only an `execute_one` call records a fault, and a machine with a recorded fault has no step. -/
theorem stepKeepsFaultRecord : Obligations.StepKeepsFaultRecord := by
  intro s t hs h
  obtain ⟨hrun, ⟨-, -, rfl⟩ | ⟨-, -, hexec⟩ | ⟨-, -, hexec⟩ | ⟨-, -, rfl⟩ | ⟨-, -, hexec⟩ | ⟨-, -, rfl⟩⟩ :=
    step_cases h
  · exact hs
  · exact executeOne_faultRecordTrue hexec
  · exact executeOne_faultRecordTrue hexec
  · exact faultRecordTrue_of_running ((s.interrupt_status 1).trans hrun)
  · exact executeOne_faultRecordTrue hexec
  · exact faultRecordTrue_of_running ((s.interrupt_status 2).trans hrun)

end Sys2Proof.Machine
end

section
/-! SUPPORT. A frame ends: the frame loop turn by turn, and the bound on the turns left (`60_exceptions.md` R284,
R285). -/

namespace Sys2Proof.Machine

variable {s t : State}

/-! ### The frame loop -/

theorem frameLoop_of_faulted (fuel : Nat) (h : step s = .next t) {opcode : Byte} {pc : Word}
    (hfault : t.status = .faulted opcode pc) : frameLoop (fuel + 1) s = .stopped t := by
  simp only [frameLoop, h, hfault]

theorem frameLoop_of_betweenFrames (fuel : Nat) (h : step s = .next t) (hrun : t.status = .running)
    (hphase : t.phase = .betweenFrames) : frameLoop (fuel + 1) s = .returned t.cyc t := by
  simp only [frameLoop, h, hrun, hphase]

theorem frameLoop_of_inFrame (fuel : Nat) (h : step s = .next t) (hrun : t.status = .running)
    (hphase : t.phase ≠ .betweenFrames) : frameLoop (fuel + 1) s = frameLoop fuel t := by
  cases hp : t.phase with
  | betweenFrames => exact absurd hp hphase
  | firstHalf | secondHalf => simp only [frameLoop, h, hrun, hp]

/-- The frame loop looks at a state through its step alone. -/
theorem frameLoop_congr (fuel : Nat) (h : step s = step t) : frameLoop fuel s = frameLoop fuel t := by
  cases fuel with
  | zero => rfl
  | succ fuel => simp only [frameLoop, h]

theorem runOneFrame_of_faulted {opcode : Byte} {pc : Word} (h : s.status = .faulted opcode pc) :
    runOneFrame s = .noCall := by
  rw [runOneFrame, h]

theorem runOneFrame_of_paused (hrun : s.status = .running) (hpaused : s.paused = true) :
    runOneFrame s = .returned 0 s := by
  rw [runOneFrame, hrun]
  exact if_pos hpaused

/-- An unpaused frame is the loop from the frame's start. -/
theorem runOneFrame_of_unpaused (hrun : s.status = .running) (hphase : s.phase = .betweenFrames)
    (hpaused : s.paused = false) : runOneFrame s = frameLoop frameFuel s.startFrame := by
  rw [runOneFrame, hrun, ← frameLoop_congr frameFuel (step_startFrame hrun hphase hpaused)]
  exact if_neg (by simp [State.frozen, hpaused])

/-! ### The turns left -/

/-- A bound on the turns left in the frame: each `execute_one` call that completes counts a cycle or more, and
each offer is a turn. -/
def turnsLeft (s : State) : Nat :=
  match s.phase with
  | .betweenFrames => 0
  | .firstHalf => 33333 - s.cyc + 2
  | .secondHalf => 33333 - s.cyc + 1

theorem turnsLeft_of_firstHalf (hphase : s.phase = .firstHalf) : turnsLeft s = 33333 - s.cyc + 2 := by
  rw [turnsLeft, hphase]

theorem turnsLeft_of_secondHalf (hphase : s.phase = .secondHalf) : turnsLeft s = 33333 - s.cyc + 1 := by
  rw [turnsLeft, hphase]

theorem turnsLeft_pos (hphase : s.phase ≠ .betweenFrames) : 0 < turnsLeft s := by
  cases hp : s.phase with
  | betweenFrames => exact absurd hp hphase
  | firstHalf => rw [turnsLeft_of_firstHalf hp]; exact Nat.succ_pos _
  | secondHalf => rw [turnsLeft_of_secondHalf hp]; exact Nat.succ_pos _

/-- A higher count at the same position leaves fewer turns, from below the second threshold. -/
theorem turnsLeft_lt (hphase : s.phase ≠ .betweenFrames) (hphase' : t.phase = s.phase) (hcyc : s.cyc < 33333)
    (hlt : s.cyc < t.cyc) : turnsLeft t < turnsLeft s := by
  cases hp : s.phase with
  | betweenFrames => exact absurd hp hphase
  | firstHalf =>
    rw [turnsLeft_of_firstHalf hp, turnsLeft_of_firstHalf (hphase'.trans hp)]
    omega
  | secondHalf =>
    rw [turnsLeft_of_secondHalf hp, turnsLeft_of_secondHalf (hphase'.trans hp)]
    omega

/-- Where a turn inside a frame leads: the fault, the end of the frame, or a turn fewer left. -/
inductive TurnEnd (s t : State) : Prop where
  | faults (opcode : Byte) (pc : Word) (hfault : t.status = .faulted opcode pc)
  | returns (hrun : t.status = .running) (hphase : t.phase = .betweenFrames) (hmin : 33333 ≤ t.cyc)
  | goesOn (hrun : t.status = .running) (hphase : t.phase ≠ .betweenFrames) (hturns : turnsLeft t < turnsLeft s)

/-- An `execute_one` call in a frame, below the second threshold, faults or takes a turn. -/
theorem turnEnd_of_executeOne (h : executeOne s = .next t) (hphase : s.phase ≠ .betweenFrames)
    (hcyc : s.cyc < 33333) : TurnEnd s t := by
  have hphase' : t.phase = s.phase := executeOne_phase h
  obtain ⟨hrun, hmin, -⟩ | ⟨-, rfl⟩ := executeOne_completes_or_faults h
  · exact .goesOn hrun (hphase' ▸ hphase) (turnsLeft_lt hphase hphase' hcyc (by omega))
  · exact .faults _ _ rfl

/-- Every step inside a frame is such a turn. -/
theorem turnEnd_of_step (h : step s = .next t) (hphase : s.phase ≠ .betweenFrames) : TurnEnd s t := by
  obtain ⟨hrun, ⟨hp, -⟩ | ⟨hp, -⟩ | ⟨hp, hcyc, hexec⟩ | ⟨hp, hcyc, rfl⟩ | ⟨hp, hcyc, hexec⟩ | ⟨hp, hcyc, rfl⟩⟩ :=
    step_cases h
  · exact absurd hp hphase
  · exact absurd hp hphase
  · exact turnEnd_of_executeOne hexec hphase (by omega)
  · refine .goesOn ((s.interrupt_status 1).trans hrun) nofun ?_
    rw [turnsLeft_of_firstHalf hp, turnsLeft_of_secondHalf rfl, State.interrupt_cyc]
    omega
  · exact turnEnd_of_executeOne hexec hphase hcyc
  · exact .returns ((s.interrupt_status 2).trans hrun) rfl ((s.interrupt_cyc 2).symm ▸ hcyc)

theorem exists_next_of_step_inFrame (hrun : s.status = .running) (hphase : s.phase ≠ .betweenFrames) :
    ∃ t, step s = .next t := by
  cases hp : s.phase with
  | betweenFrames => exact absurd hp hphase
  | firstHalf =>
    rw [step_of_firstHalf hrun hp]
    by_cases hcyc : s.cyc < 16666
    · rw [firstHalfTurn_of_lt hcyc]
      exact exists_next_of_executeOne hrun
    · exact ⟨_, firstHalfTurn_of_le (Nat.not_lt.mp hcyc)⟩
  | secondHalf =>
    rw [step_of_secondHalf hrun hp]
    by_cases hcyc : s.cyc < 33333
    · rw [secondHalfTurn_of_lt hcyc]
      exact exists_next_of_executeOne hrun
    · exact ⟨_, secondHalfTurn_of_le (Nat.not_lt.mp hcyc)⟩

theorem step_keeps_paused (h : step s = .next t) : t.paused = s.paused := by
  obtain ⟨-, ⟨-, -, rfl⟩ | ⟨-, -, hexec⟩ | ⟨-, -, hexec⟩ | ⟨-, -, rfl⟩ | ⟨-, -, hexec⟩ | ⟨-, -, rfl⟩⟩ :=
    step_cases h
  · rfl
  · exact executeOne_paused (s := s.startFrame) hexec
  · exact executeOne_paused hexec
  · exact s.interrupt_paused 1
  · exact executeOne_paused hexec
  · exact s.interrupt_paused 2

/-! ### The end of the frame -/

/-- The frame returned a count within its bounds to an unpaused machine between frames, or the fault stopped it. -/
def EndsWithinBounds (e : FrameEnd) : Prop :=
  (∃ r t, e = .returned r t ∧ 33333 ≤ r ∧ r ≤ 33350 ∧ t.status = .running ∧ t.paused = false ∧
    t.phase = .betweenFrames) ∨
  (∃ t opcode pc, e = .stopped t ∧ t.status = .faulted opcode pc)

/-- The loop from inside a frame ends in as many turns as are left. -/
theorem frameLoop_endsWithinBounds (fuel : Nat) : ∀ {s : State}, s.status = .running → s.paused = false →
    s.phase ≠ .betweenFrames → FrameCountFits s → turnsLeft s ≤ fuel → EndsWithinBounds (frameLoop fuel s) := by
  induction fuel with
  | zero =>
    intro s _ _ hphase _ hfuel
    exact absurd (turnsLeft_pos hphase) (Nat.not_lt.mpr hfuel)
  | succ fuel ih =>
    intro s hrun hpaused hphase hfits hfuel
    obtain ⟨t, h⟩ := exists_next_of_step_inFrame hrun hphase
    have hpaused' : t.paused = false := (step_keeps_paused h).trans hpaused
    have hfits' : FrameCountFits t := stepKeepsFrameCount s t hfits h
    cases turnEnd_of_step h hphase with
    | faults opcode pc hfault => exact .inr ⟨t, opcode, pc, frameLoop_of_faulted fuel h hfault, hfault⟩
    | returns hrun' hphase' hmin =>
      rw [frameCountFits_of_betweenFrames hphase'] at hfits'
      exact .inl ⟨t.cyc, t, frameLoop_of_betweenFrames fuel h hrun' hphase', hmin, by omega, hrun', hpaused',
        hphase'⟩
    | goesOn hrun' hphase' hturns =>
      rw [frameLoop_of_inFrame fuel h hrun' hphase']
      exact ih hrun' hpaused' hphase' hfits' (by omega)

/-- Settles O44: the bound on the steps of a frame is one more than the turns left at its start. -/
theorem frameReturnsWithinBounds : Obligations.FrameReturnsWithinBounds := by
  intro s hrun hpaused hphase
  have hfits : FrameCountFits s.startFrame := rfl
  have hfuel : turnsLeft s.startFrame ≤ frameFuel := Nat.le_succ 33335
  rw [runOneFrame_of_unpaused hrun hphase hpaused]
  exact frameLoop_endsWithinBounds frameFuel (s := s.startFrame) hrun hpaused nofun hfits hfuel

end Sys2Proof.Machine
end

section
/-! SUPPORT. The statements about interrupts, `execute_one` and the scheduler (`60_exceptions.md` R271 to R286)
not settled above. -/

namespace Sys2Proof.Machine

open Claims

/-- Settles O40: an accepted interrupt is a push of PC, two flag writes and a jump; a dropped one is nothing. -/
theorem interruptAcceptance : Obligations.InterruptAcceptance := by
  intro n s
  refine ⟨s.interrupt_of_disabled n, fun hinte => ?_⟩
  rw [s.interrupt_of_enabled n hinte]
  have hframe := (Keeps.refl { sp := true, inte := true, halted := true, stored := [s.sp - 1, s.sp - 2] } s).push16
    id s.pc rfl (by simp) (by simp)
  exact ⟨rfl, rfl, restartAddress_toNat n, rfl,
    ⟨rfl, fun hs => ⟨State.push16_high s.pc hs, State.push16_low s.pc hs⟩⟩,
    (hframe.setHalted false rfl).setInte false rfl⟩

/-- Settles O41: one equation per case, and the cost of a call that does not fault. -/
theorem executeOneCases : Obligations.ExecuteOneCases := by
  refine fun s => ⟨fun _ _ => executeOne_of_faulted, executeOne_of_halted,
    fun hrun hhalted _ _ => executeOne_of_decode hrun hhalted, fun t h hrun => ?_⟩
  obtain ⟨-, hcost⟩ | ⟨-, rfl⟩ := executeOne_completes_or_faults h
  · exact hcost
  · cases hrun

/-- Settles O43: an offer is the interrupt itself at no cost, and below a threshold the turn is the idle call. -/
theorem schedulerOffersAtThresholds : Obligations.SchedulerOffersAtThresholds := by
  intro s hrun
  refine ⟨fun hphase hcyc => ?_, fun hphase hcyc => ?_, fun hhalted hphase hcyc => ?_,
    fun hhalted hphase hcyc => ?_⟩
  · rw [step_of_firstHalf hrun hphase]
    exact ⟨_, firstHalfTurn_of_le hcyc, rfl, s.interrupt_cyc 1⟩
  · rw [step_of_secondHalf hrun hphase]
    exact ⟨_, secondHalfTurn_of_le hcyc, rfl, s.interrupt_cyc 2⟩
  · rw [step_of_firstHalf hrun hphase, firstHalfTurn_of_lt hcyc, executeOne_of_halted hrun hhalted]
  · rw [step_of_secondHalf hrun hphase, secondHalfTurn_of_lt hcyc, executeOne_of_halted hrun hhalted]

theorem State.unpause_pause {s : State} (h : s.paused = false) : s.pause.unpause = s :=
  congrArg (fun paused => { s with paused }) h.symm

/-- Settles O45: the paused machine is frozen, and unpausing it gives back the state before. -/
theorem pausedFrameChangesNothing : Obligations.PausedFrameChangesNothing :=
  fun s hrun hphase => ⟨rfl, rfl, runOneFrame_of_paused (s := s.pause) hrun rfl,
    step_of_paused (s := s.pause) hrun hphase rfl,
    fun hpaused => congrArg runOneFrame (State.unpause_pause hpaused)⟩

/-- Settles O39: each of the three looks at STATUS first. -/
theorem faultedStateIsFinal : Obligations.FaultedStateIsFinal :=
  fun _ _ _ h => ⟨executeOne_of_faulted h, step_of_faulted h, runOneFrame_of_faulted h⟩

end Sys2Proof.Machine
end

section
/-! SUPPORT. Time and results (`70_reset_and_hazards.md` R318): no instruction reads the cycle count; each only adds
to it where it ends. -/

namespace Sys2Proof.Machine

/-- The same state with `n` more cycles counted. -/
def State.delay (n : Nat) (s : State) : State := { s with cyc := s.cyc + n }

/-- The answer with `n` more cycles counted in the next state. -/
def Answer.delay (n : Nat) : Answer → Answer
  | .next s => .next (s.delay n)
  | .fault r => .fault r
  | .refused r => .refused r

theorem State.jump_delay (n : Nat) (s : State) (target : Word) (cycles : Nat) :
    (s.delay n).jump target cycles = (s.jump target cycles).delay n :=
  congrArg (fun cyc => { s.jump target cycles with cyc }) (Nat.add_right_comm s.cyc n cycles)

theorem State.retire_delay (n : Nat) (s : State) (len : Word) (cycles : Nat) :
    (s.delay n).retire len cycles = (s.retire len cycles).delay n :=
  s.jump_delay n (s.pc + len) cycles

variable {n : Nat} {s : State} {now later : Answer}

/-- Two answers that jump at the same cost, one from the state before and one from it delayed. -/
theorem eq_delay_of_jump {target : Word} {cycles : Nat} (hnow : now = .next (s.jump target cycles))
    (hlater : later = .next ((s.delay n).jump target cycles)) : later = Answer.delay n now := by
  rw [hlater, hnow, State.jump_delay]
  rfl

/-- Two answers that go on at the same cost, one from the state before and one from it delayed. -/
theorem eq_delay_of_retire {len : Word} {cycles : Nat} (hnow : now = .next (s.retire len cycles))
    (hlater : later = .next ((s.delay n).retire len cycles)) : later = Answer.delay n now := by
  rw [hlater, hnow, State.retire_delay]
  rfl

/-- Two answers that branch on the same condition. -/
theorem eq_delay_of_ite {c : Prop} [Decidable c] {now' later' : Answer} (h : later = Answer.delay n now)
    (h' : later' = Answer.delay n now') :
    (if c then later else later') = Answer.delay n (if c then now else now') := by
  rw [h, h', apply_ite (Answer.delay n)]

variable (n s)

theorem State.writePort_delay (port v : Byte) :
    (s.delay n).writePort port v = (s.writePort port v).delay n := by
  simp only [State.writePort_eq, apply_ite (State.delay n)]
  rfl

theorem output_delay (port : Byte) : output port (s.delay n) = Answer.delay n (output port s) := by
  refine eq_delay_of_retire rfl ?_
  rw [← State.writePort_delay]
  rfl

/-- Every instruction ends by going on, by a jump, or by the exception, which counts nothing. -/
theorem exec_delay (i : Instr) : exec i (s.delay n) = Answer.delay n (exec i s) := by
  cases i with
  | jnz | jz | jnc | jc | jpo | jpe | jp | jm | cnz | cz | cnc | cc | cpo | cpe | cp | cm
  | rnz | rz | rnc | rc | rpo | rpe | rp | rm =>
    exact eq_delay_of_ite (eq_delay_of_jump rfl rfl) (eq_delay_of_retire rfl rfl)
  | jmp | call | ret | rst0 | rst1 | rst2 | rst3 | rst4 | rst5 | rst6 | rst7 | pchl =>
    exact eq_delay_of_jump rfl rfl
  | undoc08 | undoc10 | undoc18 | undoc20 | undoc28 | undoc30 | undoc38
  | undocCB | undocD9 | undocDD | undocED | undocFD => rfl
  | outPort port => exact output_delay n s port
  | _ => exact eq_delay_of_retire rfl rfl

/-- Settles O60: the count is added to and never read. -/
theorem resultsDoNotDependOnTime : Obligations.ResultsDoNotDependOnTime :=
  fun i s _ n h => (exec_delay n s i).trans (congrArg (Answer.delay n) h)

end Sys2Proof.Machine
end

section
/-! SUPPORT. The statement about the fill of the reset state (`92_eei_decisions.md` D4), settled. -/

namespace Sys2Proof.Machine

/-- Settles O52: each register is filled with 0, and memory lists no byte. -/
theorem resetFillsWithZero : Obligations.ResetFillsWithZero := by
  refine ⟨fun r => ?_, rfl, rfl, rfl, fun _ => Memory.read_nil _⟩
  cases r <;> rfl

end Sys2Proof.Machine
end
